-- ==== Sys2Proof/Word.lean ====
section
/-! DEFINITION. The word types of the block (spec/00_scope.md R7, R8): every register value is an unsigned
bit vector, bit 0 the least significant; pin p of the expander is bit p of a register value. -/

namespace Sys2Proof

/-- A register value: `REGW` = 16 bits, one bit per pin (R7, R11). -/
abbrev Word := BitVec 16

/-- A command word: `CMDW` = 64 bits (R7, R90). -/
abbrev Command := BitVec 64

/-- A notification-target tag: `TAGW` = 8 bits, opaque to the block (R7, R25). -/
abbrev Tag := BitVec 8

/-- A bus address: `ADDRW` = 7 bits (R7, R30). -/
abbrev BusAddr := BitVec 7

/-- A register id of the expander: one byte (R60). -/
abbrev RegId := BitVec 8

/-- One byte register of the expander (R60, R62). -/
abbrev Byte := BitVec 8

/-- `NPINS` (R7). -/
abbrev npins : Nat := 16

end Sys2Proof
end

