-- ==== Sys2Proof/Config.lean ====
section
/-! DEFINITION. What an implementation fixes (spec/00_scope.md R7) and the free values (spec/70_reset_and_hazards.md
R270: the registers a Reset leaves unspecified). The OPEN parameters and the free values are uninterpreted: nothing in
Lean can prove a value of one. -/

namespace Sys2Proof.Config

/-- `SERVICE_START_POLICY` (R7; R233, R239). -/
inductive StartPolicy where
  /-- ServiceStart is fused to the step that returns to `Idle` (R233). -/
  | immediate
  /-- ServiceStart waits for a `PollTick` that finds the Engine `Idle` (R239). -/
  | polled
deriving DecidableEq, Repr, Inhabited

/-- The staged result status (R26, R97): `OK` = 0, `BUS_FAIL` = 1. -/
inductive Status where
  | ok
  | busFail
deriving DecidableEq, Repr, Inhabited

/-- The parameters of the block (R7). A machine's State carries them, and no step writes them (log entry 6). -/
structure Params where
  /-- `DEV_ADDR_0`, OPEN. -/
  devAddr0 : BusAddr
  /-- `DEV_ADDR_1`, OPEN. -/
  devAddr1 : BusAddr
  /-- `ADDR_SEL`, OPEN: the strap, constant after reset. -/
  addrSel : Bool
  /-- `REG_INPUT`, OPEN: the port-0 id of the pair; port 1 is the id plus 1. -/
  regInput : RegId
  /-- `REG_OUTPUT`, OPEN. -/
  regOutput : RegId
  /-- `REG_CONFIG`, OPEN. -/
  regConfig : RegId
  /-- `REG_INTMASK`, OPEN. -/
  regIntMask : RegId
  /-- `REG_INTSTAT`, OPEN. -/
  regIntStat : RegId
  /-- `SERVICE_START_POLICY`. -/
  policy : StartPolicy
  /-- `RETRY_DELAY`, OPEN; no rule depends on it (R251). -/
  retryDelay : Nat
deriving DecidableEq, Repr

/-- `DEV_ADDR_0` of the machine that `State.reset` describes. OPEN (R7). -/
opaque devAddr0 : BusAddr
/-- `DEV_ADDR_1`. OPEN (R7). -/
opaque devAddr1 : BusAddr
/-- `ADDR_SEL`. OPEN (R7). -/
opaque addrSel : Bool
/-- `REG_INPUT`. OPEN (R7). -/
opaque regInput : RegId
/-- `REG_OUTPUT`. OPEN (R7). -/
opaque regOutput : RegId
/-- `REG_CONFIG`. OPEN (R7). -/
opaque regConfig : RegId
/-- `REG_INTMASK`. OPEN (R7). -/
opaque regIntMask : RegId
/-- `REG_INTSTAT`. OPEN (R7). -/
opaque regIntStat : RegId
/-- `RETRY_DELAY`. OPEN (R7). -/
opaque retryDelay : Nat

/-- The parameters of `State.reset`: OPEN ones uninterpreted, the policy at its default `IMMEDIATE` (R7, R233). -/
def params : Params where
  devAddr0 := devAddr0
  devAddr1 := devAddr1
  addrSel := addrSel
  regInput := regInput
  regOutput := regOutput
  regConfig := regConfig
  regIntMask := regIntMask
  regIntStat := regIntStat
  policy := .immediate
  retryDelay := retryDelay

/-- The registers a `Reset` leaves unspecified (R37, R270). -/
structure Unspecified where
  pins : Word
  pa : Word
  pb : Word
  cbTag : Tag
  resStatus : Status
  resValue : Word
  inSnapshot : Word
  ihTag : Tag
deriving DecidableEq, Repr, Inhabited

/-- FREE VALUE (log entry 8): what the unspecified registers hold after a `Reset` event, given how many such events
came before and what the registers held. -/
opaque afterReset : Nat → Unspecified → Unspecified

end Sys2Proof.Config
end

