-- ==== Sys2Proof/Syntax.lean ====
section
/-! DEFINITION. The commands (spec/opcode_table.json; spec/30_encoding.md R92): one constructor per row, with the operands
the row's command reads. A completion target is `some tag` for `cbv = 1` and `none` for `cbv = 0` (R91, log entry 12). -/

namespace Sys2Proof

/-- The direction operand of MODE and of the Builder's SET (R94 (b)): 1 = output, 0 = input. -/
inductive Direction where
  | input
  | output
deriving DecidableEq, Repr

/-- The level operand of WRITE and of the Builder's SET (R94 (c)): 1 = high, 0 = low. -/
inductive Level where
  | low
  | high
deriving DecidableEq, Repr

/-- The nine commands (R92). A pin operand is the whole field `a`, in or out of range (R94 (a)). -/
inductive Instr where
  /-- MODE: set the direction of one pin (R150). -/
  | mode (pin : Word) (dir : Direction) (target : Option Tag)
  /-- WRITE: set the output level of one pin (R154). -/
  | write (pin : Word) (level : Level) (target : Option Tag)
  /-- TOGGLE: invert the output level of one pin (R158). -/
  | toggle (pin : Word) (target : Option Tag)
  /-- BULKWRITE: direction and output level of the masked pins (R170). -/
  | bulkWrite (pinsMask directionsMask valuesMask : Word) (target : Option Tag)
  /-- BULKTOGGLE: invert the output level of the masked pins (R176). -/
  | bulkToggle (pinsMask : Word) (target : Option Tag)
  /-- BULKSETINT: masked pins to input, their interrupt-mask bits set (R180). -/
  | bulkSetInt (pinsMask valuesMask : Word) (target : Option Tag)
  /-- BULKREAD: read all 16 input levels (R186). -/
  | bulkRead (target : Option Tag)
  /-- SETIH: register the interrupt handler (R200). -/
  | setIH (handler : Tag)
  /-- CLRIH: remove the interrupt handler (R201). -/
  | clrIH
deriving DecidableEq, Repr

/-- The pseudo-instruction `READ` is `BULKREAD` (R100 (a)). -/
abbrev Instr.read (target : Option Tag) : Instr := .bulkRead target

/-- One call on a Builder before its COMMIT (R206, R207). The pin is an integer, in or out of range. -/
inductive BuilderOp where
  /-- `SET pin, dir, val` (R206). -/
  | set (pin : Nat) (dir : Direction) (val : Level)
  /-- `CALLBACK @t` (R207). -/
  | callback (target : Tag)
deriving DecidableEq, Repr

/-- The trailing `@t` of the assembler syntax (R99). -/
def asmTarget : Option Tag → String
  | none => ""
  | some t => " @" ++ toString t.toNat

/-- The command in the assembler syntax of R99, numbers in decimal (log entry 16). -/
def Instr.asm : Instr → String
  | .mode p .input t => "MODE " ++ toString p.toNat ++ ", IN" ++ asmTarget t
  | .mode p .output t => "MODE " ++ toString p.toNat ++ ", OUT" ++ asmTarget t
  | .write p .low t => "WRITE " ++ toString p.toNat ++ ", LO" ++ asmTarget t
  | .write p .high t => "WRITE " ++ toString p.toNat ++ ", HI" ++ asmTarget t
  | .toggle p t => "TOGGLE " ++ toString p.toNat ++ asmTarget t
  | .bulkWrite m d v t =>
    "BULKWRITE " ++ toString m.toNat ++ ", " ++ toString d.toNat ++ ", " ++ toString v.toNat ++ asmTarget t
  | .bulkToggle m t => "BULKTOGGLE " ++ toString m.toNat ++ asmTarget t
  | .bulkSetInt m v t => "BULKSETINT " ++ toString m.toNat ++ ", " ++ toString v.toNat ++ asmTarget t
  | .bulkRead t => "BULKREAD" ++ asmTarget t
  | .setIH h => "SETIH " ++ toString h.toNat
  | .clrIH => "CLRIH"

end Sys2Proof
end

