-- ==== Sys2Proof/WellFormed.lean ====
section
/-! DEFINITION. Well-formed commands: the only operand constraint of the opcode table is `a < 16` for the three
single-pin commands (spec/30_encoding.md R94 (a), R101). Every mask and every tag is legal (R94 (d)). -/

namespace Sys2Proof

/-- A pin identifier is "an integer in [0, 16)" (R11, R94 (a)); the whole 16-bit field is compared. -/
def pinInRange (pin : Word) : Bool := decide (pin.toNat < npins)

/-- The operand constraint of each command's row. -/
def Instr.wellFormed : Instr → Bool
  | .mode pin _ _ => pinInRange pin
  | .write pin _ _ => pinInRange pin
  | .toggle pin _ => pinInRange pin
  | .bulkWrite _ _ _ _ => true
  | .bulkToggle _ _ => true
  | .bulkSetInt _ _ _ => true
  | .bulkRead _ => true
  | .setIH _ => true
  | .clrIH => true

end Sys2Proof
end

