-- ==== Sys2Proof/Decode.lean ====
section
/-! DEFINITION. The command word `CMD64` (spec/30_encoding.md R90 to R95): its fields, the decoder, total on every word and
rejecting by name, and the encoder. -/

namespace Sys2Proof

/-- Why a word selects no row of the opcode table (R95 (a), (b)). Both are reported as `INVALID_CMD`. -/
inductive DecodeError where
  /-- `op` is 0x0 or in 0xA to 0xF (R95 (a)). -/
  | reservedOpcode (op : BitVec 4)
  /-- One of the bits 59:57 is set (R95 (b)). -/
  | reservedBits (zero : BitVec 3)
deriving DecidableEq, Repr

/-- The seven fields of `CMD64` put together, the first in the high bits (R91). -/
def packFields (op : BitVec 4) (zero : BitVec 3) (cbv : BitVec 1) (tag : Tag) (c b a : Word) : Command :=
  op ++ zero ++ cbv ++ tag ++ c ++ b ++ a

/-- `op`, bits 63:60 (R91). -/
def opField (w : Command) : BitVec 4 := w.extractLsb' 60 4
/-- `zero`, bits 59:57 (R91). -/
def zeroField (w : Command) : BitVec 3 := w.extractLsb' 57 3
/-- `cbv`, bit 56 (R91). -/
def cbvField (w : Command) : BitVec 1 := w.extractLsb' 56 1
/-- `tag`, bits 55:48 (R91). -/
def tagField (w : Command) : Tag := w.extractLsb' 48 8
/-- `c`, bits 47:32 (R91). -/
def cField (w : Command) : Word := w.extractLsb' 32 16
/-- `b`, bits 31:16 (R91). -/
def bField (w : Command) : Word := w.extractLsb' 16 16
/-- `a`, bits 15:0 (R91). -/
def aField (w : Command) : Word := w.extractLsb' 0 16

/-- `cbv = 1` names the completion target `tag`; with `cbv = 0` there is none and `tag` has no effect (R91, R123). -/
def targetOf (cbv : BitVec 1) (tag : Tag) : Option Tag := if cbv = 1#1 then some tag else none

/-- `dir = b[0]`, 1 = output (R94 (b)); `b[15:1]` is ignored (R93). -/
def directionOf (b : Word) : Direction := if b.getLsbD 0 then .output else .input

/-- `level = b[0]`, 1 = high (R94 (c)); `b[15:1]` is ignored (R93). -/
def levelOf (b : Word) : Level := if b.getLsbD 0 then .high else .low

/-- The decoder: the checks (a) and (b) of R95, then the opcode map of R92. Fields a command does not use are ignored
(R93). The pin-range check of R95 (c) is the meaning's (R122 check 2, log entry 11). -/
def decode (w : Command) : Except DecodeError Instr :=
  if zeroField w ≠ 0#3 then .error (.reservedBits (zeroField w))
  else
    match (opField w).toNat with
    | 0x1 => .ok (.mode (aField w) (directionOf (bField w)) (targetOf (cbvField w) (tagField w)))
    | 0x2 => .ok (.write (aField w) (levelOf (bField w)) (targetOf (cbvField w) (tagField w)))
    | 0x3 => .ok (.toggle (aField w) (targetOf (cbvField w) (tagField w)))
    | 0x4 => .ok (.bulkWrite (aField w) (bField w) (cField w) (targetOf (cbvField w) (tagField w)))
    | 0x5 => .ok (.bulkToggle (aField w) (targetOf (cbvField w) (tagField w)))
    | 0x6 => .ok (.bulkSetInt (aField w) (bField w) (targetOf (cbvField w) (tagField w)))
    | 0x7 => .ok (.bulkRead (targetOf (cbvField w) (tagField w)))
    | 0x8 => .ok (.setIH (tagField w))
    | 0x9 => .ok .clrIH
    | _ => .error (.reservedOpcode (opField w))

/-- The `cbv` field of a completion target (R99). -/
def cbvOf (target : Option Tag) : BitVec 1 := if target.isSome then 1#1 else 0#1
/-- The `tag` field of a completion target, 0 without one (R99). -/
def tagOf (target : Option Tag) : Tag := target.getD 0#8
/-- The `b` field of a direction (R99: `b = IN ? 0 : 1`). -/
def directionField : Direction → Word
  | .input => 0#16
  | .output => 1#16
/-- The `b` field of a level (R99: `b = LO ? 0 : 1`). -/
def levelField : Level → Word
  | .low => 0#16
  | .high => 1#16

/-- The opcode of each command (R92). -/
def Instr.opcode : Instr → BitVec 4
  | .mode _ _ _ => 0x1#4
  | .write _ _ _ => 0x2#4
  | .toggle _ _ => 0x3#4
  | .bulkWrite _ _ _ _ => 0x4#4
  | .bulkToggle _ _ => 0x5#4
  | .bulkSetInt _ _ _ => 0x6#4
  | .bulkRead _ => 0x7#4
  | .setIH _ => 0x8#4
  | .clrIH => 0x9#4

/-- The encoder: the word of a command, unused fields zero (R91, R92, R93, R99). -/
def encode (i : Instr) : Command :=
  match i with
  | .mode pin dir t => packFields i.opcode 0 (cbvOf t) (tagOf t) 0 (directionField dir) pin
  | .write pin level t => packFields i.opcode 0 (cbvOf t) (tagOf t) 0 (levelField level) pin
  | .toggle pin t => packFields i.opcode 0 (cbvOf t) (tagOf t) 0 0 pin
  | .bulkWrite m d v t => packFields i.opcode 0 (cbvOf t) (tagOf t) v d m
  | .bulkToggle m t => packFields i.opcode 0 (cbvOf t) (tagOf t) 0 0 m
  | .bulkSetInt m v t => packFields i.opcode 0 (cbvOf t) (tagOf t) 0 v m
  | .bulkRead t => packFields i.opcode 0 (cbvOf t) (tagOf t) 0 0 0
  | .setIH h => packFields i.opcode 0 0 h 0 0 0
  | .clrIH => packFields i.opcode 0 0 0 0 0 0

/-- The instruction the decoder reads from a table word: a command is one 64-bit word (R90), and every bit above `nbits`
is 0. -/
def decodeTableWord (nbits w : Nat) : Option Instr :=
  match decode (BitVec.ofNat 64 (w % 2 ^ nbits)) with
  | .ok i => some i
  | .error _ => none

end Sys2Proof
end

