-- ==== Sys2Proof/Machine/State.lean ====
section
/-! DEFINITION. The state of the machine as plain data: the registers of spec/10_state.md R20, the Builders of R35, the
parameters of spec/00_scope.md R7, and the model's own fields: the events still to be delivered, the outputs so far, and
the count of Reset events. -/

namespace Sys2Proof.Machine

/-- The 18 sequencer states (R21), in the order of their codes. -/
inductive EngineState where
  | idle
  | readDirection
  | writeDirection
  | readOutputForWrite
  | writeOutputForWrite
  | readOutputForToggle
  | writeOutputForToggle
  | readOutputForBulkSet
  | writeOutputForBulkSet
  | readDirectionForBulkSet
  | writeDirectionForBulkSet
  | readInterruptDirection
  | writeInterruptDirection
  | readInterruptMask
  | writeInterruptMask
  | readInputForServicing
  | readInterruptStatus
  | signalDone
deriving DecidableEq, Repr

/-- The kind of the pending request (R23), in the order of the codes. -/
inductive Kind where
  | none
  | mode
  | write
  | toggle
  | bulkWrite
  | bulkToggle
  | bulkSetInt
  | bulkRead
  | service
deriving DecidableEq, Repr

/-- The five 16-bit registers of the expander that the block reaches over the bus (R32, R61). -/
inductive RemoteReg where
  /-- `IN`, input. -/
  | input
  /-- `OUT`, output. -/
  | output
  /-- `CFG`, configuration (direction). -/
  | config
  /-- `IMASK`, interrupt mask. -/
  | intMask
  /-- `ISTAT`, interrupt status. -/
  | intStat
deriving DecidableEq, Repr

/-- The `reason` of a synchronous response (R96). -/
inductive Reason where
  | none
  | busy
  | invalidPin
  | invalidCmd
deriving DecidableEq, Repr

/-- The synchronous response of a command (R96). -/
structure Response where
  accepted : Bool
  reason : Reason
deriving DecidableEq, Repr

/-- `rw` of a bus request (R64): 0 = read, 1 = write. -/
inductive BusOp where
  | read
  | write
deriving DecidableEq, Repr

/-- One event of the bus-request port (R64). -/
structure BusReq where
  rw : BusOp
  addr : BusAddr
  reg : RegId
  len : BitVec 2
  wdata : Word
deriving DecidableEq, Repr

/-- The completion notification of a sequence command (R97). -/
structure Done where
  tag : Tag
  status : Config.Status
  value : Word
deriving DecidableEq, Repr

/-- The delivery to the registered interrupt handler (R98). -/
structure IrqNotify where
  tag : Tag
  status : Config.Status
  changed : Word
  values : Word
deriving DecidableEq, Repr

/-- An output event (R9). -/
inductive Output where
  /-- The synchronous response of a command (R96). -/
  | resp (r : Response)
  /-- A bus operation issued (R64). -/
  | busReq (q : BusReq)
  /-- A completion notification (R97). -/
  | done (d : Done)
  /-- An interrupt-handler notification (R98). -/
  | irqNotify (n : IrqNotify)
  /-- The result of a Builder's COMMIT (R208): the response of the command it sent, `none` for "nothing issued". -/
  | commitResult (builder : Nat) (r : Option Response)
deriving DecidableEq, Repr

/-- An event (R6, R120). The Builder events are the requester's own front-end steps (R205); a Builder is named by its
place in the list of those created. -/
inductive Event where
  /-- `Cmd(w)`: a command word arrives. -/
  | cmd (w : Command)
  /-- `BusDone(ok, rdata)`: the transport completes the outstanding bus operation (R65). -/
  | busDone (ok : Bool) (rdata : Word)
  /-- `IrqEdge`: a falling edge was detected on the interrupt line (R230). -/
  | irqEdge
  /-- `Notify`: the scheduler runs the Engine's deferred continuation (R126). -/
  | notify
  /-- `PollTick`: the retry timer fires (R239). -/
  | pollTick
  /-- `Reset` (R270). -/
  | reset
  /-- The requester creates a Builder (R35). -/
  | builderNew
  /-- SET or CALLBACK on a Builder (R206, R207). -/
  | builderOp (builder : Nat) (op : BuilderOp)
  /-- COMMIT of a Builder (R208). -/
  | builderCommit (builder : Nat)
deriving DecidableEq, Repr

/-- A Builder's accumulator (R35), with the bit "the Builder is finished" of R208. -/
structure Builder where
  /-- `b_pins` -/
  pins : Word
  /-- `b_dirs` -/
  dirs : Word
  /-- `b_vals` -/
  vals : Word
  /-- `b_armed` -/
  armed : Bool
  /-- `b_cbv` -/
  cbv : Bool
  /-- `b_tag` -/
  tag : Tag
  /-- COMMIT has been called (R208). -/
  finished : Bool
deriving DecidableEq, Repr

/-- The machine. The first 14 fields are the block's registers, "the complete state of one block instance" (R20). -/
structure State where
  /-- `state`: the sequencer state, the block's program counter (R21). -/
  state : EngineState
  /-- `kind`: the kind of the pending request (R23). -/
  kind : Kind
  /-- `pins`: pinsMask of the pending request (R24). -/
  pins : Word
  /-- `pa`: register-level desired bits of the first read-modify-write (R24). -/
  pa : Word
  /-- `pb`: register-level desired bits of the second read-modify-write (R24). -/
  pb : Word
  /-- `cb_valid`: a completion target is pending (R25). -/
  cbValid : Bool
  /-- `cb_tag`: the pending completion target (R25). -/
  cbTag : Tag
  /-- `res_status`: staged result status (R26). -/
  resStatus : Config.Status
  /-- `res_value`: staged result value (R26). -/
  resValue : Word
  /-- `in_snapshot`: last value read from the input register (R27). -/
  inSnapshot : Word
  /-- `ih_valid`: an interrupt handler is registered (R28). -/
  ihValid : Bool
  /-- `ih_tag`: the registered interrupt handler (R28). -/
  ihTag : Tag
  /-- `irq_pending`: the interrupt edge latch (R29). -/
  irqPending : Bool
  /-- `dev_addr`: bus address of the expander (R30). -/
  devAddr : BusAddr
  /-- The parameters of the block (R7); no step writes them (log entry 6). -/
  cfg : Config.Params
  /-- The Builders created, oldest first, on the requester's side (R35). -/
  builders : List Builder
  /-- The MODEL's own: the events still to be delivered, oldest first (log entry 1). -/
  input : List Event
  /-- The MODEL's own: every output event emitted, oldest first (log entry 5). -/
  out : List Output
  /-- The MODEL's own: how many Reset events were processed (log entry 8). -/
  resets : Nat
deriving DecidableEq, Repr

/-- Why the machine stops. The Engine itself never does: "No operation is fatal to the process" (60_exceptions.md). -/
inductive Fault where
  /-- Raised by a Builder event on a Builder that was committed: "no further SET, CALLBACK or COMMIT is legal on it"
  (R208). Safe: the spec gives no behaviour to lose. -/
  | builderFinished (builder : Nat)
  /-- Raised by a Builder event on a Builder that was never created. Safe: no such call exists. -/
  | noSuchBuilder (builder : Nat)
deriving DecidableEq, Repr

/-- What the model gives no meaning to. -/
inductive Refusal where
  /-- Raised by an arm of `exec` whose instruction has no meaning yet; no arm raises it. Safe. -/
  | notModelled (mnemonic : String)
deriving DecidableEq, Repr

/-- The machine right after reset (R37, R270): the registers with a reset value at it, the unspecified ones at zero (log
entry 7), nothing delivered and nothing emitted. -/
def State.reset : State where
  state := .idle
  kind := .none
  pins := 0#16
  pa := 0#16
  pb := 0#16
  cbValid := false
  cbTag := 0#8
  resStatus := .ok
  resValue := 0#16
  inSnapshot := 0#16
  ihValid := false
  ihTag := 0#8
  irqPending := false
  devAddr := if Config.params.addrSel then Config.params.devAddr1 else Config.params.devAddr0
  cfg := Config.params
  builders := []
  input := []
  out := []
  resets := 0

end Sys2Proof.Machine
end

