-- ==== Sys2Proof/Machine/Flags.lean ====
section
/-! DEFINITION. The derived signals of the block (spec/10_state.md R31) and the numeric codes of its enumerations (R21, R23,
spec/30_encoding.md R96 to R98). The block has no arithmetic flags (spec/40_engine_common.md R129). -/

namespace Sys2Proof.Machine

/-- The bus operation outstanding while the Engine is in a state (R21). -/
def outstanding : EngineState → Option (BusOp × RemoteReg)
  | .idle => none
  | .readDirection => some (.read, .config)
  | .writeDirection => some (.write, .config)
  | .readOutputForWrite => some (.read, .output)
  | .writeOutputForWrite => some (.write, .output)
  | .readOutputForToggle => some (.read, .output)
  | .writeOutputForToggle => some (.write, .output)
  | .readOutputForBulkSet => some (.read, .output)
  | .writeOutputForBulkSet => some (.write, .output)
  | .readDirectionForBulkSet => some (.read, .config)
  | .writeDirectionForBulkSet => some (.write, .config)
  | .readInterruptDirection => some (.read, .config)
  | .writeInterruptDirection => some (.write, .config)
  | .readInterruptMask => some (.read, .intMask)
  | .writeInterruptMask => some (.write, .intMask)
  | .readInputForServicing => some (.read, .input)
  | .readInterruptStatus => some (.read, .intStat)
  | .signalDone => none

/-- `busy = (state != Idle)` (R31). -/
def busy (s : State) : Bool := decide (s.state ≠ .idle)

/-- `bus_outstanding`: the state is one of codes 1 to 16 (R31). -/
def busOutstanding (e : EngineState) : Bool := (outstanding e).isSome

/-- `notify_due = (state = SignalDone)` (R31). -/
def notifyDue (s : State) : Bool := decide (s.state = .signalDone)

/-- The 5-bit code of a sequencer state (R21). -/
def stateCode : EngineState → BitVec 5
  | .idle => 0
  | .readDirection => 1
  | .writeDirection => 2
  | .readOutputForWrite => 3
  | .writeOutputForWrite => 4
  | .readOutputForToggle => 5
  | .writeOutputForToggle => 6
  | .readOutputForBulkSet => 7
  | .writeOutputForBulkSet => 8
  | .readDirectionForBulkSet => 9
  | .writeDirectionForBulkSet => 10
  | .readInterruptDirection => 11
  | .writeInterruptDirection => 12
  | .readInterruptMask => 13
  | .writeInterruptMask => 14
  | .readInputForServicing => 15
  | .readInterruptStatus => 16
  | .signalDone => 17

/-- The 4-bit code of a request kind (R23). -/
def kindCode : Kind → BitVec 4
  | .none => 0
  | .mode => 1
  | .write => 2
  | .toggle => 3
  | .bulkWrite => 4
  | .bulkToggle => 5
  | .bulkSetInt => 6
  | .bulkRead => 7
  | .service => 8

/-- The 2-bit code of a rejection reason (R96). -/
def reasonCode : Reason → BitVec 2
  | .none => 0
  | .busy => 1
  | .invalidPin => 2
  | .invalidCmd => 3

/-- The 1-bit code of a result status (R97). -/
def statusCode : Config.Status → BitVec 1
  | .ok => 0
  | .busFail => 1

/-- The `rw` bit of a bus request (R64). -/
def busOpCode : BusOp → BitVec 1
  | .read => 0
  | .write => 1

end Sys2Proof.Machine
end

