-- ==== Sys2Proof/Machine/Operands.lean ====
section
/-! DEFINITION. Operand assembly (spec/30_encoding.md R94) and the arithmetic of the block (spec/40_engine_common.md R127,
R129): what the pending registers are loaded with, and what is written back. -/

namespace Sys2Proof.Machine

/-- `merge(old, pins, desired) = (old & ~pins) | (pins & desired)` (R127). -/
def merge (old pins desired : Word) : Word := (old &&& ~~~pins) ||| (pins &&& desired)

/-- The toggle steps: every bit in `pins` inverted (R159). -/
def toggleBits (old pins : Word) : Word := old ^^^ pins

/-- `1 << p`, defined for 0 to 15 (R8). -/
def oneHot (p : Nat) : Word := 1#16 <<< p

/-- A valid pin becomes `pins <- 1 << a[3:0]` (R94 (a)). -/
def pinMask (a : Word) : Word := oneHot (a.extractLsb' 0 4).toNat

/-- MODE: `pa <- (dir = 0) ? pins : 0x0000`; at the register level 1 = input (R94 (b)). -/
def desiredDirection (dir : Direction) (pins : Word) : Word :=
  match dir with
  | .input => pins
  | .output => 0#16

/-- WRITE: `pa <- (level = 1) ? pins : 0x0000`, no inversion (R94 (c)). -/
def desiredLevel (level : Level) (pins : Word) : Word :=
  match level with
  | .low => 0#16
  | .high => pins

/-- BULKWRITE: `pa <- ~b`; directionsMask bit = 1 means output (R94 (e)). -/
def desiredDirections (directionsMask : Word) : Word := ~~~directionsMask

/-- The 16-bit value of a pair of byte registers: `rdata = {byte1, byte0}`, port 0 low (R62). -/
def wordOfBytes (byte0 byte1 : Byte) : Word := byte1 ++ byte0

/-- The byte at the port-0 id, transferred first (R62). -/
def port0Byte (v : Word) : Byte := v.extractLsb' 0 8

/-- The byte at the port-1 id, transferred second (R62). -/
def port1Byte (v : Word) : Byte := v.extractLsb' 8 8

end Sys2Proof.Machine
end

