-- ==== Sys2Proof/Machine/Ops.lean ====
section
/-! DEFINITION. The named operations every step is made of: output (spec/00_scope.md R9), the bus primitives
(spec/20_memory.md R67), decode-independent checks and rejection (spec/40_engine_common.md R122), the acceptance of a
sequence command (R123), the staging of a result, bus failure (R125), trap entry = ServiceStart (spec/60_exceptions.md
R232, R241) and trap return = Notify (R126, R242), and Reset (spec/70_reset_and_hazards.md R270). -/

namespace Sys2Proof.Machine

/-- Emit one output event (R9). -/
def State.emit (s : State) (o : Output) : State := { s with out := s.out ++ [o] }

/-- `state <- S` (R9). -/
def State.goto (s : State) (e : EngineState) : State := { s with state := e }

/-- The parameter that holds a remote register's port-0 id (R7, R61). -/
def regId (p : Config.Params) : RemoteReg → RegId
  | .input => p.regInput
  | .output => p.regOutput
  | .config => p.regConfig
  | .intMask => p.regIntMask
  | .intStat => p.regIntStat

/-- The strap-selected bus address (R30, R270). -/
def strapAddr (p : Config.Params) : BusAddr := if p.addrSel then p.devAddr1 else p.devAddr0

/-- The request `issue BusRead(r)` emits: `BusReq{rw=0, addr=dev_addr, reg=r, len=2, wdata=0}` (R64, R67). -/
def readReq (s : State) (r : RemoteReg) : BusReq :=
  { rw := .read, addr := s.devAddr, reg := regId s.cfg r, len := 2#2, wdata := 0#16 }

/-- The request `issue BusWrite(r, v)` emits: `BusReq{rw=1, addr=dev_addr, reg=r, len=2, wdata=v}` (R64, R67). -/
def writeReq (s : State) (r : RemoteReg) (v : Word) : BusReq :=
  { rw := .write, addr := s.devAddr, reg := regId s.cfg r, len := 2#2, wdata := v }

/-- `issue BusRead(r)` (R67). -/
def issueRead (r : RemoteReg) (s : State) : State := s.emit (.busReq (readReq s r))

/-- `issue BusWrite(r, v)` (R67). -/
def issueWrite (r : RemoteReg) (v : Word) (s : State) : State := s.emit (.busReq (writeReq s r v))

/-- `respond(1, NONE)` (R122 step 4). -/
def accepted : Response := { accepted := true, reason := .none }

/-- The response `raise Reject(reason)` drives (R9). -/
def rejected (reason : Reason) : Response := { accepted := false, reason := reason }

/-- `raise Reject(reason)`: the response, and no state register written and no other output (R9, R122). -/
def reject (reason : Reason) (s : State) : State := s.emit (.resp (rejected reason))

/-- Checks 2 and 3 of R122, in that order; `pinOk` is true for a command that names no pin. -/
def verdict (pinOk : Bool) (s : State) : Response :=
  if pinOk = false then rejected .invalidPin
  else if busy s then rejected .busy
  else accepted

/-- A decoded command: the checks, then `respond(1, NONE)` and the command's own acceptance step (R122). -/
def command (pinOk : Bool) (accept : State → State) (s : State) : State :=
  if (verdict pinOk s).accepted then accept (s.emit (.resp accepted))
  else reject (verdict pinOk s).reason s

/-- The acceptance of a sequence command, less the loading of `pins`, `pa`, `pb`: the kind, the completion target, the first
bus read and the first state (R123). `cb_tag` is written only with `cbv = 1`. -/
def startSequence (kind : Kind) (target : Option Tag) (first : RemoteReg) (firstState : EngineState) (s : State) : State :=
  (issueRead first { s with kind := kind, cbValid := target.isSome, cbTag := target.getD s.cbTag }).goto firstState

/-- The last `BusDone` step of a sequence: stage the result and go to `SignalDone` (R26). -/
def stage (status : Config.Status) (value : Word) (s : State) : State :=
  { s with resStatus := status, resValue := value, state := .signalDone }

/-- Bus failure: the sequence is aborted where it stands (R125). -/
def busFailure (s : State) : State := stage .busFail 0#16 s

/-- ServiceStart, the "trap entry" (R232, R241). -/
def serviceStart (s : State) : State :=
  (issueRead .input { s with irqPending := false, kind := .service, cbValid := false }).goto .readInputForServicing

/-- The kinds whose result is reported by a `Done` (R126). -/
def isSequenceKind : Kind → Bool
  | .none => false
  | .mode => true
  | .write => true
  | .toggle => true
  | .bulkWrite => true
  | .bulkToggle => true
  | .bulkSetInt => true
  | .bulkRead => true
  | .service => false

/-- What a `Service` delivers to the handler: nothing of the readings when it failed (R126, R237). -/
def serviceReport (s : State) : IrqNotify :=
  match s.resStatus with
  | .ok => { tag := s.ihTag, status := .ok, changed := s.resValue, values := s.inSnapshot }
  | .busFail => { tag := s.ihTag, status := .busFail, changed := 0#16, values := 0#16 }

/-- The notification of the `Notify` step, if there is a target (R126). -/
def notification (s : State) : Option Output :=
  if isSequenceKind s.kind && s.cbValid then
    some (.done { tag := s.cbTag, status := s.resStatus, value := s.resValue })
  else if decide (s.kind = .service) && s.ihValid then
    some (.irqNotify (serviceReport s))
  else none

/-- The first half of `Notify`: deliver, clear the pending request, return to `Idle` (R126). -/
def deliver (s : State) : State :=
  { s with out := s.out ++ (notification s).toList, cbValid := false, kind := .none, state := .idle }

/-- `Notify`, the "trap return" (R126, R242): enabled exactly in `SignalDone`; under IMMEDIATE a latched interrupt is
served in the same step. Where it is not enabled it does nothing (log entry 4). -/
def notifyStep (s : State) : State :=
  if notifyDue s then
    if s.irqPending && decide (s.cfg.policy = .immediate) then serviceStart (deliver s) else deliver s
  else s

/-- What the registers that a Reset leaves unspecified hold before it. -/
def unspecifiedOf (s : State) : Config.Unspecified :=
  { pins := s.pins, pa := s.pa, pb := s.pb, cbTag := s.cbTag, resStatus := s.resStatus, resValue := s.resValue,
    inSnapshot := s.inSnapshot, ihTag := s.ihTag }

/-- `Reset`, in any state (R270). The unspecified registers take free values (log entry 8); nothing is emitted. -/
def resetStep (s : State) : State :=
  let u := Config.afterReset s.resets (unspecifiedOf s)
  { s with
    state := .idle, kind := .none, cbValid := false, ihValid := false, irqPending := false,
    devAddr := strapAddr s.cfg,
    pins := u.pins, pa := u.pa, pb := u.pb, cbTag := u.cbTag, resStatus := u.resStatus, resValue := u.resValue,
    inSnapshot := u.inSnapshot, ihTag := u.ihTag,
    resets := s.resets + 1 }

end Sys2Proof.Machine
end

