-- ==== Sys2Proof/Machine/Bulk.lean ====
section
/-! DEFINITION. BULKWRITE, BULKTOGGLE, BULKSETINT and BULKREAD: the acceptance steps and the completion steps of the states
they own (spec/42_bulk.md R170 to R186). No bulk command has a pin-range check. -/

namespace Sys2Proof.Machine

/-- BULKWRITE (R170). -/
def execBulkWrite (pinsMask directionsMask valuesMask : Word) (target : Option Tag) (s : State) :
    Host.Outcome State Fault Refusal :=
  .next (command true
    (fun t => startSequence .bulkWrite target .config .readDirectionForBulkSet
      { t with pins := pinsMask, pa := desiredDirections directionsMask, pb := valuesMask }) s)

/-- BULKTOGGLE (R176): `pa` and `pb` are not written. -/
def execBulkToggle (pinsMask : Word) (target : Option Tag) (s : State) : Host.Outcome State Fault Refusal :=
  .next (command true
    (fun t => startSequence .bulkToggle target .output .readOutputForToggle { t with pins := pinsMask }) s)

/-- BULKSETINT (R180): the desired direction is input for every masked pin, so `pa <- a`. -/
def execBulkSetInt (pinsMask valuesMask : Word) (target : Option Tag) (s : State) : Host.Outcome State Fault Refusal :=
  .next (command true
    (fun t => startSequence .bulkSetInt target .config .readInterruptDirection
      { t with pins := pinsMask, pa := pinsMask, pb := valuesMask }) s)

/-- BULKREAD (R186): `pins`, `pa`, `pb` are not written. -/
def execBulkRead (target : Option Tag) (s : State) : Host.Outcome State Fault Refusal :=
  .next (command true (fun t => startSequence .bulkRead target .input .readInputForServicing t) s)

/-- Completion in `ReadDirectionForBulkSet`: always a write (R171). -/
def completeReadDirectionForBulkSet (rdata : Word) (s : State) : State :=
  (issueWrite .config (merge rdata s.pins s.pa) s).goto .writeDirectionForBulkSet

/-- Completion in `WriteDirectionForBulkSet` (R172). -/
def completeWriteDirectionForBulkSet (s : State) : State := (issueRead .output s).goto .readOutputForBulkSet

/-- Completion in `ReadOutputForBulkSet`: always a write (R173). -/
def completeReadOutputForBulkSet (rdata : Word) (s : State) : State :=
  (issueWrite .output (merge rdata s.pins s.pb) s).goto .writeOutputForBulkSet

/-- Completion in `WriteOutputForBulkSet` (R174). -/
def completeWriteOutputForBulkSet (s : State) : State := stage .ok 0#16 s

/-- Completion in `ReadInterruptDirection`: always a write (R181). -/
def completeReadInterruptDirection (rdata : Word) (s : State) : State :=
  (issueWrite .config (merge rdata s.pins s.pa) s).goto .writeInterruptDirection

/-- Completion in `WriteInterruptDirection` (R182). -/
def completeWriteInterruptDirection (s : State) : State := (issueRead .intMask s).goto .readInterruptMask

/-- Completion in `ReadInterruptMask`: always a write (R183). -/
def completeReadInterruptMask (rdata : Word) (s : State) : State :=
  (issueWrite .intMask (merge rdata s.pins s.pb) s).goto .writeInterruptMask

/-- Completion in `WriteInterruptMask` (R184). -/
def completeWriteInterruptMask (s : State) : State := stage .ok 0#16 s

end Sys2Proof.Machine
end

