-- ==== Sys2Proof/Machine/Handler.lean ====
section
/-! DEFINITION. SETIH and CLRIH: accepted only in `Idle`, complete in their own step, no bus operation and no `Done`
(spec/43_handler_builder.md R200, R201). -/

namespace Sys2Proof.Machine

/-- SETIH (R200). -/
def execSetIH (handler : Tag) (s : State) : Host.Outcome State Fault Refusal :=
  .next (command true (fun t => { t with ihValid := true, ihTag := handler }) s)

/-- CLRIH (R201): `ih_tag` keeps its value. -/
def execClrIH (s : State) : Host.Outcome State Fault Refusal :=
  .next (command true (fun t => { t with ihValid := false }) s)

end Sys2Proof.Machine
end

