-- ==== Sys2Proof/Machine/SinglePin.lean ====
section
/-! DEFINITION. MODE, WRITE and TOGGLE: the acceptance steps and the completion steps of the states they own
(spec/41_single_pin.md R150 to R160). -/

namespace Sys2Proof.Machine

/-- MODE (R150). -/
def execMode (pin : Word) (dir : Direction) (target : Option Tag) (s : State) : Host.Outcome State Fault Refusal :=
  .next (command (pinInRange pin)
    (fun t => startSequence .mode target .config .readDirection
      { t with pins := pinMask pin, pa := desiredDirection dir (pinMask pin) }) s)

/-- WRITE (R154). -/
def execWrite (pin : Word) (level : Level) (target : Option Tag) (s : State) : Host.Outcome State Fault Refusal :=
  .next (command (pinInRange pin)
    (fun t => startSequence .write target .output .readOutputForWrite
      { t with pins := pinMask pin, pa := desiredLevel level (pinMask pin) }) s)

/-- TOGGLE (R158): `pa` and `pb` are not written. -/
def execToggle (pin : Word) (target : Option Tag) (s : State) : Host.Outcome State Fault Refusal :=
  .next (command (pinInRange pin)
    (fun t => startSequence .toggle target .output .readOutputForToggle { t with pins := pinMask pin }) s)

/-- The read step shared by MODE and WRITE: write back only if the merged value differs from the value just read (R151,
R155). -/
def writeIfChanged (r : RemoteReg) (writeState : EngineState) (rdata : Word) (s : State) : State :=
  if merge rdata s.pins s.pa = rdata then stage .ok 0#16 s
  else (issueWrite r (merge rdata s.pins s.pa) s).goto writeState

/-- Completion in `ReadDirection` (R151). -/
def completeReadDirection (rdata : Word) (s : State) : State := writeIfChanged .config .writeDirection rdata s

/-- Completion in `WriteDirection` (R152). -/
def completeWriteDirection (s : State) : State := stage .ok 0#16 s

/-- Completion in `ReadOutputForWrite` (R155). -/
def completeReadOutputForWrite (rdata : Word) (s : State) : State := writeIfChanged .output .writeOutputForWrite rdata s

/-- Completion in `WriteOutputForWrite` (R156). -/
def completeWriteOutputForWrite (s : State) : State := stage .ok 0#16 s

/-- Completion in `ReadOutputForToggle`, for TOGGLE and BULKTOGGLE alike: always a write (R159). -/
def completeReadOutputForToggle (rdata : Word) (s : State) : State :=
  (issueWrite .output (toggleBits rdata s.pins) s).goto .writeOutputForToggle

/-- Completion in `WriteOutputForToggle` (R160). -/
def completeWriteOutputForToggle (s : State) : State := stage .ok 0#16 s

end Sys2Proof.Machine
end

