-- ==== Sys2Proof/Machine/Dispatch.lean ====
section
/-! DEFINITION. The meaning of every command: its step on the command port (spec/40_engine_common.md R122 checks 2 to 4). -/

namespace Sys2Proof.Machine

def exec (i : Instr) (s : State) : Host.Outcome State Fault Refusal :=
  match i with
  | .mode pin dir target => Sys2Proof.Machine.execMode pin dir target s
  | .write pin level target => Sys2Proof.Machine.execWrite pin level target s
  | .toggle pin target => Sys2Proof.Machine.execToggle pin target s
  | .bulkWrite pinsMask directionsMask valuesMask target => Sys2Proof.Machine.execBulkWrite pinsMask directionsMask valuesMask target s
  | .bulkToggle pinsMask target => Sys2Proof.Machine.execBulkToggle pinsMask target s
  | .bulkSetInt pinsMask valuesMask target => Sys2Proof.Machine.execBulkSetInt pinsMask valuesMask target s
  | .bulkRead target => Sys2Proof.Machine.execBulkRead target s
  | .setIH handler => Sys2Proof.Machine.execSetIH handler s
  | .clrIH => Sys2Proof.Machine.execClrIH s

end Sys2Proof.Machine
end

