-- ==== Sys2Proof/Machine/Service.lean ====
section
/-! DEFINITION. The interrupt steps (spec/60_exceptions.md R230 to R239) and the dispatch of a bus completion
(spec/40_engine_common.md R124). -/

namespace Sys2Proof.Machine

/-- `IrqEdge`: latch the edge; in `Idle` the service starts in the same step, under both policies (R230). -/
def irqEdgeStep (s : State) : State :=
  if busy s then { s with irqPending := true } else serviceStart { s with irqPending := true }

/-- `PollTick`: under POLLED a waiting interrupt is served if the Engine is `Idle`; otherwise nothing (R239). Under IMMEDIATE
there is no retry timer (R251), and a tick does nothing (log entry 4). -/
def pollTickStep (s : State) : State :=
  if decide (s.cfg.policy = .polled) && !busy s && s.irqPending then serviceStart s else s

/-- Completion in `ReadInputForServicing`: the pre-status snapshot; a service reads `ISTAT` next, a BULKREAD is done
(R234, R235). -/
def completeReadInputForServicing (rdata : Word) (s : State) : State :=
  if s.kind = .service then
    (issueRead .intStat { s with inSnapshot := rdata }).goto .readInterruptStatus
  else stage .ok rdata { s with inSnapshot := rdata }

/-- Completion in `ReadInterruptStatus`: the value is `changedPinsMask` (R236). -/
def completeReadInterruptStatus (rdata : Word) (s : State) : State := stage .ok rdata s

/-- The completion rule of each state, for `ok = 1` (R124). -/
def complete (rdata : Word) (s : State) : State :=
  match s.state with
  | .idle => s
  | .readDirection => completeReadDirection rdata s
  | .writeDirection => completeWriteDirection s
  | .readOutputForWrite => completeReadOutputForWrite rdata s
  | .writeOutputForWrite => completeWriteOutputForWrite s
  | .readOutputForToggle => completeReadOutputForToggle rdata s
  | .writeOutputForToggle => completeWriteOutputForToggle s
  | .readOutputForBulkSet => completeReadOutputForBulkSet rdata s
  | .writeOutputForBulkSet => completeWriteOutputForBulkSet s
  | .readDirectionForBulkSet => completeReadDirectionForBulkSet rdata s
  | .writeDirectionForBulkSet => completeWriteDirectionForBulkSet s
  | .readInterruptDirection => completeReadInterruptDirection rdata s
  | .writeInterruptDirection => completeWriteInterruptDirection s
  | .readInterruptMask => completeReadInterruptMask rdata s
  | .writeInterruptMask => completeWriteInterruptMask s
  | .readInputForServicing => completeReadInputForServicing rdata s
  | .readInterruptStatus => completeReadInterruptStatus rdata s
  | .signalDone => s

/-- `BusDone(ok, rdata)`: spurious in `Idle` and `SignalDone`, a failure with `ok = 0`, else the completion rule of the
state (R124). -/
def busDoneStep (ok : Bool) (rdata : Word) (s : State) : State :=
  if busOutstanding s.state then
    if ok then complete rdata s else busFailure s
  else s

end Sys2Proof.Machine
end

