-- ==== Sys2Proof/Machine/Front.lean ====
section
/-! DEFINITION. The command port (spec/40_engine_common.md R122), the Builder (spec/43_handler_builder.md R205 to R208), and
the step of each event. -/

namespace Sys2Proof.Machine

/-- `Cmd(w)`: a word that selects no row of the opcode table is rejected `INVALID_CMD`, busy or not (R95, R122 check 1);
any other is its command's step. -/
def cmdStep (w : Command) (s : State) : Host.Outcome State Fault Refusal :=
  match decode w with
  | .error _ => .next (reject .invalidCmd s)
  | .ok i => exec i s

/-- A new Builder: all fields zero (R35). -/
def newBuilder : Builder where
  pins := 0#16
  dirs := 0#16
  vals := 0#16
  armed := false
  cbv := false
  tag := 0#8
  finished := false

/-- One bit of an accumulated mask replaced: `(v & ~m) | (x ? m : 0)` (R206). -/
def putBit (v m : Word) (x : Bool) : Word := (v &&& ~~~m) ||| (if x then m else 0#16)

/-- One call on a Builder: SET (R206; the last SET of a pin wins; a pin of 16 or more changes nothing) or CALLBACK (R207). -/
def applyOp (b : Builder) : BuilderOp → Builder
  | .set pin dir val =>
    if pin < npins then
      { b with
        pins := b.pins ||| oneHot pin
        dirs := putBit b.dirs (oneHot pin) (decide (dir = .output))
        vals := putBit b.vals (oneHot pin) (decide (val = .high))
        armed := true }
    else b
  | .callback t => { b with cbv := true, tag := t }

/-- The completion target a Builder was given (R207). -/
def builderTarget (b : Builder) : Option Tag := if b.cbv then some b.tag else none

/-- What COMMIT sends: exactly one BULKWRITE if armed, nothing if not (R208). -/
def builderCommand (b : Builder) : Option Instr :=
  if b.armed then some (.bulkWrite b.pins b.dirs b.vals (builderTarget b)) else none

/-- The expansion of `BUILD … COMMIT` (R100 (b)). -/
def expandBuild (ops : List BuilderOp) : Option Instr := builderCommand (ops.foldl applyOp newBuilder)

/-- A Builder that may be used: created and not yet committed (R208). -/
def findBuilder (n : Nat) (s : State) : Except Fault Builder :=
  match s.builders[n]? with
  | none => .error (.noSuchBuilder n)
  | some b => if b.finished then .error (.builderFinished n) else .ok b

/-- The requester creates a Builder (R35). -/
def builderNewStep (s : State) : State := { s with builders := s.builders ++ [newBuilder] }

/-- SET or CALLBACK on a Builder: only its accumulator changes (R205 to R207). -/
def builderOpStep (n : Nat) (op : BuilderOp) (s : State) : Host.Outcome State Fault Refusal :=
  match findBuilder n s with
  | .error f => .fault f
  | .ok b => .next { s with builders := s.builders.set n (applyOp b op) }

/-- COMMIT (R208): the Builder is finished; if armed, its BULKWRITE word goes to the command port in this same step and the
result is that command's response, whatever it is; if not, nothing is sent. -/
def builderCommitStep (n : Nat) (s : State) : Host.Outcome State Fault Refusal :=
  match findBuilder n s with
  | .error f => .fault f
  | .ok b =>
    let s' := { s with builders := s.builders.set n { b with finished := true } }
    match builderCommand b with
    | none => .next (s'.emit (.commitResult n none))
    | some i =>
      match cmdStep (encode i) s' with
      | .next t => .next (t.emit (.commitResult n (some (verdict true s))))
      | .fault f => .fault f
      | .refused r => .refused r

/-- One event, processed to its end (R121). -/
def handle (e : Event) (s : State) : Host.Outcome State Fault Refusal :=
  match e with
  | .cmd w => cmdStep w s
  | .busDone ok rdata => .next (busDoneStep ok rdata s)
  | .irqEdge => .next (irqEdgeStep s)
  | .notify => .next (notifyStep s)
  | .pollTick => .next (pollTickStep s)
  | .reset => .next (resetStep s)
  | .builderNew => .next (builderNewStep s)
  | .builderOp n op => builderOpStep n op s
  | .builderCommit n => builderCommitStep n s

/-- The next event of the environment, or, with none left, what the Engine does by itself: `Notify` when it is due, else it
waits (R120 (d), R255, log entry 3). -/
def nextStep (s : State) : Host.Outcome State Fault Refusal :=
  match s.input with
  | [] => .next (notifyStep s)
  | e :: rest => handle e { s with input := rest }

/-- The word of a table row put at the head of the events: the very next step processes it as a command. -/
def presentWord (s : State) (nbits w : Nat) : State :=
  { s with input := .cmd (BitVec.ofNat 64 (w % 2 ^ nbits)) :: s.input }

end Sys2Proof.Machine
end

