-- ==== Sys2Proof/Machine/Step.lean ====
section
/-! DEFINITION. The step of the machine: one event, atomically (spec/00_scope.md R6, spec/40_engine_common.md R121). -/

namespace Sys2Proof.Machine

/-- One step. -/
def step (s : State) : Host.Outcome State Fault Refusal := nextStep s

/-- `s` with an instruction placed where the next step takes it: the head of the command stream (log entry 2). -/
def State.withFetchWord (s : State) (nbits w : Nat) : State := presentWord s nbits w

end Sys2Proof.Machine
end

