-- ==== Sys2Proof/Machine/Arbiter.lean ====
section
/-! DEFINITION. Simultaneous events in an implementation with a clock (spec/60_exceptions.md R245). The machine itself takes
its events in any order; this is the one order R245 gives a clocked implementation (log entry 14). -/

namespace Sys2Proof.Machine

/-- The place of an event in R245's order. The requester's Builder calls stand with its commands. -/
def priority : Event → Nat
  | .reset => 1
  | .busDone _ _ => 2
  | .notify => 3
  | .irqEdge => 4
  | .pollTick => 5
  | .cmd _ => 6
  | .builderNew => 6
  | .builderOp _ _ => 6
  | .builderCommit _ => 6

/-- Put an event before the first event of a lower priority than its own. -/
def insertEvent (e : Event) : List Event → List Event
  | [] => [e]
  | f :: rest => if priority e ≤ priority f then e :: f :: rest else f :: insertEvent e rest

/-- The events of one cycle in R245's order, events of one priority in the order given. -/
def serialise (batch : List Event) : List Event := batch.foldr insertEvent []

/-- Whether an event is a bus completion. -/
def isBusDone : Event → Bool
  | .busDone _ _ => true
  | _ => false

/-- The events that one clock cycle delivers: those that arrived, and the Engine's own `Notify` if `state = SignalDone` and
no `BusDone` is among them (R245 (3)). -/
def cycleEvents (arrived : List Event) (s : State) : List Event :=
  serialise (if notifyDue s && !arrived.any isBusDone then arrived ++ [.notify] else arrived)

/-- The machine at the start of a clock cycle in which these events arrived together. DESIGN CHOICE (log entry 14): R6 and R245
are silent on events left unprocessed from an earlier cycle; here they stand before all events of the new cycle, a Reset
included, and whether `Notify` is due is judged on the state before them. -/
def clockCycle (arrived : List Event) (s : State) : State := { s with input := s.input ++ cycleEvents arrived s }

end Sys2Proof.Machine
end

