-- ==== Sys2Proof/Machine/RefDevice.lean ====
section
/-! DEFINITION. The reference model of the remote device (spec/20_memory.md R74): environment, for vectors only. It is no
part of the block: State does not hold it and no step calls it (log entry 10). -/

namespace Sys2Proof.Machine

/-- The five 16-bit values the reference device holds (R74). -/
structure RefDevice where
  /-- `IN` -/
  input : Word
  /-- `OUT` -/
  output : Word
  /-- `CFG` -/
  config : Word
  /-- `IMASK` -/
  intMask : Word
  /-- `ISTAT` -/
  intStat : Word
deriving DecidableEq, Repr

/-- The value of one of the five registers. -/
def deviceValue (d : RefDevice) : RemoteReg → Word
  | .input => d.input
  | .output => d.output
  | .config => d.config
  | .intMask => d.intMask
  | .intStat => d.intStat

/-- The register pair whose port-0 id is `id` (R61). -/
def regOfId (p : Config.Params) (id : RegId) : Option RemoteReg :=
  if id = p.regInput then some .input
  else if id = p.regOutput then some .output
  else if id = p.regConfig then some .config
  else if id = p.regIntMask then some .intMask
  else if id = p.regIntStat then some .intStat
  else none

/-- `MemRead(REG_x, 2)`: the byte at the port-0 id first, then the one at port 1 (R62); a read of `ISTAT` clears it (R72,
R74). -/
def memRead (r : RemoteReg) (d : RefDevice) : Word × RefDevice :=
  let v := deviceValue d r
  (wordOfBytes (port0Byte v) (port1Byte v), if r = .intStat then { d with intStat := 0#16 } else d)

/-- `MemWrite(REG_x, 2, v)`: writes to `IN` and `ISTAT` are ignored (R74). -/
def memWrite (r : RemoteReg) (v : Word) (d : RefDevice) : RefDevice :=
  match r with
  | .input => d
  | .output => { d with output := v }
  | .config => { d with config := v }
  | .intMask => { d with intMask := v }
  | .intStat => d

/-- What a vector says of the answer to one bus request (R74, "unless a vector says it fails"). -/
structure Reply where
  /-- How many of the events that wait are delivered before the answer. -/
  wait : Nat
  /-- `some rdata`: the operation fails, and its completion carries `rdata`, which the block ignores (R65). -/
  failed : Option Word
deriving DecidableEq, Repr

/-- The reply where a vector says nothing: `ok = 1`, ahead of the events that wait (log entry 10). -/
def promptOk : Reply where
  wait := 0
  failed := none

/-- The reference transport's answer to a bus request: `ok = 1`, with the value read or 0 for a write (R74); for an operation
that the vector says fails, `ok = 0`, the device left as it was (spec/95_test_vectors.md, B6 and P6). A request for an id outside
the five pairs, which the block never issues, is not answered. -/
def answer (p : Config.Params) (failed : Option Word) (q : BusReq) (d : RefDevice) : Option (Event × RefDevice) :=
  match regOfId p q.reg with
  | none => none
  | some r =>
    match failed with
    | some rdata => some (.busDone false rdata, d)
    | none =>
      match q.rw with
      | .read => some (.busDone true (memRead r d).1, (memRead r d).2)
      | .write => some (.busDone true 0#16, memWrite r q.wdata d)

/-- The bus request among some outputs, if there is one (a step issues at most one, R67). -/
def requestIn : List Output → Option BusReq
  | [] => none
  | .busReq q :: _ => some q
  | _ :: rest => requestIn rest

/-- An answer put among the events that wait. -/
def deliverAfter (n : Nat) (e : Event) (waiting : List Event) : List Event := waiting.take n ++ e :: waiting.drop n

/-- One step of the machine closed with the reference environment: if the step issued a request, its answer is put among the
events that wait, as the head of the script says, or `promptOk` if the script is at its end. DESIGN CHOICE (log entry 10): when
the device is read or written between a request and its completion R74 does not say; here it is in the step that issues the
request, however long the answer waits. -/
def closedStep (script : List Reply) (s : State) (d : RefDevice) : Option (List Reply × State × RefDevice) :=
  match step s with
  | .next t =>
    match requestIn (t.out.drop s.out.length) with
    | none => some (script, t, d)
    | some q =>
      match answer t.cfg (script.headD promptOk).failed q d with
      | none => none
      | some (e, d') =>
        some (script.tail, { t with input := deliverAfter (script.headD promptOk).wait e t.input }, d')
  | .fault _ => none
  | .refused _ => none

/-- `k` steps of the closed machine, the bus operations answered as the script says, in order. Where a vector changes `IN` or
`ISTAT` itself, or another master writes, the run is taken in parts and the device changed between them: before the issuing
step for a change that comes before the access, after it for one that comes after (log entry 10). -/
def closedRun : Nat → List Reply → State → RefDevice → Option (State × RefDevice)
  | 0, _, s, d => some (s, d)
  | k + 1, script, s, d =>
    match closedStep script s d with
    | none => none
    | some (script', t, d') => closedRun k script' t d'

end Sys2Proof.Machine
end

