-- ==== Sys2Proof/Safety.lean ====
section
/-! DEFINITION. The terms in which the statements are written: what a step puts out, the invariants of spec/10_state.md R33,
the tables of R24, spec/40_engine_common.md R123 and R131 as tables, and which registers are dead (R33 (f)). Nothing here is
called by a step. -/

namespace Sys2Proof.Machine

/-! ## What a step puts out -/

/-- The outputs of a step from `s` to `t`. -/
def newOutputs (s t : State) : List Output := t.out.drop s.out.length

/-- A bus request. -/
def isBusReq : Output → Bool
  | .busReq _ => true
  | _ => false

/-- A notification: `Done` or `IrqNotify`. -/
def isNotification : Output → Bool
  | .done _ => true
  | .irqNotify _ => true
  | _ => false

/-- A `Done` notification. -/
def isDone : Output → Bool
  | .done _ => true
  | _ => false

/-- A synchronous response. -/
def isResponse : Output → Bool
  | .resp _ => true
  | _ => false

/-- The event that the next step processes, the Engine's own `Notify` when nothing is waiting. -/
def nextEvent (s : State) : Event := s.input.headD .notify

/-- The event is one of a Builder's. -/
def isBuilderEvent : Event → Bool
  | .builderNew => true
  | .builderOp _ _ => true
  | .builderCommit _ => true
  | _ => false

/-- The notification that ends a successful sequence: one `Done{OK}` with a target, none without (R126). -/
def doneOk (target : Option Tag) (value : Word) : List Output :=
  match target with
  | some tag => [.done { tag := tag, status := .ok, value := value }]
  | none => []

/-! ## The tables of R24 and R123, by request kind -/

/-- The kind of the sequence a command starts; none for SETIH and CLRIH (R23, R123). -/
def sequenceKind : Instr → Option Kind
  | .mode _ _ _ => some .mode
  | .write _ _ _ => some .write
  | .toggle _ _ => some .toggle
  | .bulkWrite _ _ _ _ => some .bulkWrite
  | .bulkToggle _ _ => some .bulkToggle
  | .bulkSetInt _ _ _ => some .bulkSetInt
  | .bulkRead _ => some .bulkRead
  | .setIH _ => none
  | .clrIH => none

/-- The completion target a command carries (R91). -/
def completionTarget : Instr → Option Tag
  | .mode _ _ t => t
  | .write _ _ t => t
  | .toggle _ t => t
  | .bulkWrite _ _ _ t => t
  | .bulkToggle _ t => t
  | .bulkSetInt _ _ t => t
  | .bulkRead t => t
  | .setIH _ => none
  | .clrIH => none

/-- R24, column `pins`, given the old value: a bulk read leaves it. -/
def loadedPins (i : Instr) (old : Word) : Word :=
  match i with
  | .mode pin _ _ => 1#16 <<< pin.toNat
  | .write pin _ _ => 1#16 <<< pin.toNat
  | .toggle pin _ => 1#16 <<< pin.toNat
  | .bulkWrite m _ _ _ => m
  | .bulkToggle m _ => m
  | .bulkSetInt m _ _ => m
  | .bulkRead _ => old
  | .setIH _ => old
  | .clrIH => old

/-- R24, column `pa`. -/
def loadedPa (i : Instr) (old : Word) : Word :=
  match i with
  | .mode pin dir _ => if dir = .input then 1#16 <<< pin.toNat else 0#16
  | .write pin level _ => if level = .high then 1#16 <<< pin.toNat else 0#16
  | .toggle _ _ => old
  | .bulkWrite _ d _ _ => ~~~d
  | .bulkToggle _ _ => old
  | .bulkSetInt m _ _ => m
  | .bulkRead _ => old
  | .setIH _ => old
  | .clrIH => old

/-- R24, column `pb`. -/
def loadedPb (i : Instr) (old : Word) : Word :=
  match i with
  | .mode _ _ _ => old
  | .write _ _ _ => old
  | .toggle _ _ => old
  | .bulkWrite _ _ v _ => v
  | .bulkToggle _ _ => old
  | .bulkSetInt _ v _ => v
  | .bulkRead _ => old
  | .setIH _ => old
  | .clrIH => old

/-- R123's table: the register of the first bus read. Only for kinds a command starts. -/
def firstRead : Kind → RemoteReg
  | .mode => .config
  | .write => .output
  | .toggle => .output
  | .bulkWrite => .config
  | .bulkToggle => .output
  | .bulkSetInt => .config
  | .bulkRead => .input
  | .service => .input
  | .none => .input

/-- R123's table: the first state. -/
def firstState : Kind → EngineState
  | .mode => .readDirection
  | .write => .readOutputForWrite
  | .toggle => .readOutputForToggle
  | .bulkWrite => .readDirectionForBulkSet
  | .bulkToggle => .readOutputForToggle
  | .bulkSetInt => .readInterruptDirection
  | .bulkRead => .readInputForServicing
  | .service => .readInputForServicing
  | .none => .idle

/-- The command word by R91's formula, `w = op << 60 | cbv << 56 | tag << 48 | c << 32 | b << 16 | a`, with the field
`zero` at bits 59:57. -/
def formulaWord (op : BitVec 4) (zero : BitVec 3) (cbv : BitVec 1) (tag : Tag) (c b a : Word) : Command :=
  (op.setWidth 64 <<< 60) ||| (zero.setWidth 64 <<< 57) ||| (cbv.setWidth 64 <<< 56) ||| (tag.setWidth 64 <<< 48) |||
    (c.setWidth 64 <<< 32) ||| (b.setWidth 64 <<< 16) ||| a.setWidth 64

/-- The response that R122's checks, in its order, give a word: the fields `op` (bits 63:60), `zero` (59:57) and `a` (15:0)
of the word itself. -/
def checksOfR122 (w : Command) (s : State) : Response :=
  if (w.extractLsb' 60 4 = 0x0#4 ∨ 0xA ≤ (w.extractLsb' 60 4).toNat) ∨ w.extractLsb' 57 3 ≠ 0#3 then
    { accepted := false, reason := .invalidCmd }
  else if (w.extractLsb' 60 4).toNat ≤ 3 ∧ 16 ≤ (w.extractLsb' 0 16).toNat then
    { accepted := false, reason := .invalidPin }
  else if s.state ≠ .idle then { accepted := false, reason := .busy }
  else { accepted := true, reason := .none }

/-! ## The transition table of R131 -/

/-- The state a command leads to from `Idle`: the first state of a legal sequence command, else `Idle`. -/
def commandTarget (i : Instr) : EngineState :=
  if i.wellFormed then
    match sequenceKind i with
    | some k => firstState k
    | none => .idle
  else .idle

/-- R131, column `BusDone` ok. -/
def tableOk (rdata : Word) (s : State) : EngineState :=
  match s.state with
  | .idle => .idle
  | .readDirection => if merge rdata s.pins s.pa ≠ rdata then .writeDirection else .signalDone
  | .writeDirection => .signalDone
  | .readOutputForWrite => if merge rdata s.pins s.pa ≠ rdata then .writeOutputForWrite else .signalDone
  | .writeOutputForWrite => .signalDone
  | .readOutputForToggle => .writeOutputForToggle
  | .writeOutputForToggle => .signalDone
  | .readOutputForBulkSet => .writeOutputForBulkSet
  | .writeOutputForBulkSet => .signalDone
  | .readDirectionForBulkSet => .writeDirectionForBulkSet
  | .writeDirectionForBulkSet => .readOutputForBulkSet
  | .readInterruptDirection => .writeInterruptDirection
  | .writeInterruptDirection => .readInterruptMask
  | .readInterruptMask => .writeInterruptMask
  | .writeInterruptMask => .signalDone
  | .readInputForServicing => if s.kind = .service then .readInterruptStatus else .signalDone
  | .readInterruptStatus => .signalDone
  | .signalDone => .signalDone

/-- R131, column `BusDone` fail. -/
def tableFail : EngineState → EngineState
  | .idle => .idle
  | _ => .signalDone

/-- R131 whole: the state after an event, given the state before it; the last row's `POLLED` entries are below the table. -/
def tableNext (e : Event) (s : State) : EngineState :=
  match e with
  | .cmd w =>
    if s.state = .idle then
      match decode w with
      | .ok i => commandTarget i
      | .error _ => .idle
    else s.state
  | .busDone true rdata => tableOk rdata s
  | .busDone false _ => tableFail s.state
  | .irqEdge => if s.state = .idle then .readInputForServicing else s.state
  | .notify =>
    if s.state = .signalDone then
      if s.irqPending = true ∧ s.cfg.policy = .immediate then .readInputForServicing else .idle
    else s.state
  | .pollTick =>
    if s.cfg.policy = .polled ∧ s.state = .idle ∧ s.irqPending = true then .readInputForServicing else s.state
  | .reset => .idle
  | .builderNew => s.state
  | .builderOp _ _ => s.state
  | .builderCommit n =>
    match s.builders[n]? with
    | some b => if b.armed = true ∧ s.state = .idle then .readDirectionForBulkSet else s.state
    | none => s.state

/-- The state a `Notify` ends in: a latched interrupt takes the Engine under IMMEDIATE (R126). -/
def stateAfterNotify (s : State) : EngineState :=
  if s.irqPending = true ∧ s.cfg.policy = .immediate then .readInputForServicing else .idle

/-- What an event brings out of an Engine that waits for the bus: a command its rejection, anything else nothing (R283). -/
def parkedOutput (e : Event) : Option Output :=
  match e with
  | .cmd w => some (.resp (checksOfR122 w { State.reset with state := .readDirection }))
  | _ => none

/-- The event is a falling edge of the interrupt line. -/
def isIrqEdge : Event → Bool
  | .irqEdge => true
  | _ => false

/-- An event that leaves an Engine that waits for the bus where it is: no completion, no Reset, and no Builder's event. -/
def parks : Event → Bool
  | .cmd _ => true
  | .irqEdge => true
  | .notify => true
  | .pollTick => true
  | _ => false

/-! ## The invariants of R33 -/

/-- R21's column "used by", with R33 (b): the kinds that may be pending in a state. -/
def kindFits : EngineState → Kind → Bool
  | .idle, k => decide (k = .none)
  | .readDirection, k => decide (k = .mode)
  | .writeDirection, k => decide (k = .mode)
  | .readOutputForWrite, k => decide (k = .write)
  | .writeOutputForWrite, k => decide (k = .write)
  | .readOutputForToggle, k => decide (k = .toggle ∨ k = .bulkToggle)
  | .writeOutputForToggle, k => decide (k = .toggle ∨ k = .bulkToggle)
  | .readOutputForBulkSet, k => decide (k = .bulkWrite)
  | .writeOutputForBulkSet, k => decide (k = .bulkWrite)
  | .readDirectionForBulkSet, k => decide (k = .bulkWrite)
  | .writeDirectionForBulkSet, k => decide (k = .bulkWrite)
  | .readInterruptDirection, k => decide (k = .bulkSetInt)
  | .writeInterruptDirection, k => decide (k = .bulkSetInt)
  | .readInterruptMask, k => decide (k = .bulkSetInt)
  | .writeInterruptMask, k => decide (k = .bulkSetInt)
  | .readInputForServicing, k => decide (k = .bulkRead ∨ k = .service)
  | .readInterruptStatus, k => decide (k = .service)
  | .signalDone, k => decide (k ≠ .none)

/-- The word has exactly one bit set, that of a pin. -/
abbrev isOneHot (v : Word) : Prop := ∃ p : Fin npins, v = 1#16 <<< p.val

/-- What the pending registers hold for the kinds whose acceptance restricts them (R24). -/
def pendingShape (s : State) : Prop :=
  match s.kind with
  | .mode => isOneHot s.pins ∧ (s.pa = s.pins ∨ s.pa = 0#16)
  | .write => isOneHot s.pins ∧ (s.pa = s.pins ∨ s.pa = 0#16)
  | .toggle => isOneHot s.pins
  | .bulkSetInt => s.pa = s.pins
  | _ => True

/-- What a staged result holds: a value only for a BULKREAD or a service, and none on failure (R26). -/
def resultShape (s : State) : Prop :=
  s.state = .signalDone →
    (s.resStatus = .busFail → s.resValue = 0#16) ∧ (s.kind ≠ .bulkRead → s.kind ≠ .service → s.resValue = 0#16)

/-- The invariant of the Engine: R33 (a) by type, (b) and R21 by `kindFits`, (e), (g), with R24, R26 and R30. -/
structure EngineInv (s : State) : Prop where
  /-- R21, R33 (b). -/
  kind_fits : kindFits s.state s.kind = true
  /-- R33 (e). -/
  service_no_target : s.kind = .service → s.cbValid = false
  /-- R33 (g). -/
  immediate_idle : s.cfg.policy = .immediate → s.state = .idle → s.irqPending = false
  /-- R30. -/
  strap_addr : s.devAddr = strapAddr s.cfg
  /-- R24. -/
  pending_shape : pendingShape s
  /-- R26. -/
  result_shape : resultShape s

/-! ## Dead registers (R33 (f)) -/

/-- `pins` will still be read. -/
def pinsLive (s : State) : Bool :=
  busOutstanding s.state && decide (s.kind ≠ .none ∧ s.kind ≠ .bulkRead ∧ s.kind ≠ .service)

/-- `pa` will still be read. -/
def paLive (s : State) : Bool :=
  busOutstanding s.state &&
    decide (s.kind = .mode ∨ s.kind = .write ∨ s.kind = .bulkWrite ∨ s.kind = .bulkSetInt)

/-- `pb` will still be read. -/
def pbLive (s : State) : Bool := busOutstanding s.state && decide (s.kind = .bulkWrite ∨ s.kind = .bulkSetInt)

/-- `res_status` and `res_value` are read only in `SignalDone`. -/
def resultLive (s : State) : Bool := decide (s.state = .signalDone)

/-- `in_snapshot` is read only by the `Notify` of a successful service, from its first successful read on. -/
def snapshotLive (s : State) : Bool :=
  decide (s.kind = .service) &&
    (decide (s.state = .readInterruptStatus) || (decide (s.state = .signalDone) && decide (s.resStatus = .ok)))

/-- The state with every dead register set to zero. -/
def scrub (s : State) : State :=
  { s with
    pins := if pinsLive s then s.pins else 0#16
    pa := if paLive s then s.pa else 0#16
    pb := if pbLive s then s.pb else 0#16
    cbTag := if s.cbValid then s.cbTag else 0#8
    resStatus := if resultLive s then s.resStatus else .ok
    resValue := if resultLive s then s.resValue else 0#16
    inSnapshot := if snapshotLive s then s.inSnapshot else 0#16
    ihTag := if s.ihValid then s.ihTag else 0#8 }

/-- Two outcomes that differ at most in dead registers. -/
def sameButDead : Host.Outcome State Fault Refusal → Host.Outcome State Fault Refusal → Prop
  | .next a, .next b => scrub a = scrub b
  | .fault f, .fault g => f = g
  | .refused f, .refused g => f = g
  | _, _ => False

/-! ## Builders -/

/-- The last SET of a pin among some Builder calls: its direction and level; none if no call sets the pin (R206). -/
def lastSet (p : Nat) : List BuilderOp → Option (Direction × Level)
  | [] => none
  | op :: rest =>
    match lastSet p rest with
    | some r => some r
    | none =>
      match op with
      | .set q d v => if q = p then some (d, v) else none
      | .callback _ => none

/-- The last CALLBACK among some Builder calls (R207). -/
def lastCallback : List BuilderOp → Option Tag
  | [] => none
  | op :: rest =>
    match lastCallback rest with
    | some t => some t
    | none =>
      match op with
      | .set _ _ _ => none
      | .callback t => some t

/-! ## The requirements of R7 on the register ids -/

/-- The two byte registers of a pair exist, and no pair overlaps another (R7, R61). -/
def idsDistinct (p : Config.Params) : Prop :=
  (∀ r : RemoteReg, (regId p r).toNat + 1 < 256) ∧
  ∀ r q : RemoteReg, r ≠ q → regId p r ≠ regId p q ∧ regId p r + 1 ≠ regId p q

end Sys2Proof.Machine
end

