-- ==== Sys2Proof/Certificates/Slice0/Obligations.lean ====
section
/-! DEFINITION. The statements about the machine. Each docstring names the rule of spec/ it formalises. Every state is
arbitrary unless a hypothesis says otherwise, so the parameters of spec/00_scope.md R7, both policies among them, are
universally quantified through State. -/

open Sys2Proof Sys2Proof.Machine

/-! ## Encoding -/

/-- The decoder reads back every command the encoder writes, every operand at every value, an out-of-range pin included
(30_encoding.md, sections 1 and 2). -/
def Obligations.DecodeOfEncodeIsTheCommand : Prop :=
  ∀ i : Instr, decode (encode i) = .ok i

/-- R91, R92: the word put together by R91's formula, whatever its fields, is read by R92's table; a word whose `zero` field
is not 0 or whose `op` is reserved selects no row. -/
def Obligations.DecodeReadsTheFieldsOfTheFormula : Prop :=
  ∀ (zero : BitVec 3) (cbv : BitVec 1) (tag : Tag) (c b a : Word),
    let target : Option Tag := if cbv = 1#1 then some tag else none
    decode (formulaWord 0x1#4 0#3 cbv tag c b a) = .ok (.mode a (if b.getLsbD 0 then .output else .input) target) ∧
    decode (formulaWord 0x2#4 0#3 cbv tag c b a) = .ok (.write a (if b.getLsbD 0 then .high else .low) target) ∧
    decode (formulaWord 0x3#4 0#3 cbv tag c b a) = .ok (.toggle a target) ∧
    decode (formulaWord 0x4#4 0#3 cbv tag c b a) = .ok (.bulkWrite a b c target) ∧
    decode (formulaWord 0x5#4 0#3 cbv tag c b a) = .ok (.bulkToggle a target) ∧
    decode (formulaWord 0x6#4 0#3 cbv tag c b a) = .ok (.bulkSetInt a b target) ∧
    decode (formulaWord 0x7#4 0#3 cbv tag c b a) = .ok (.bulkRead target) ∧
    decode (formulaWord 0x8#4 0#3 cbv tag c b a) = .ok (.setIH tag) ∧
    decode (formulaWord 0x9#4 0#3 cbv tag c b a) = .ok .clrIH ∧
    (∀ op : BitVec 4, op = 0x0#4 ∨ 0xA ≤ op.toNat →
      decode (formulaWord op 0#3 cbv tag c b a) = .error (.reservedOpcode op)) ∧
    (∀ op : BitVec 4, zero ≠ 0#3 → decode (formulaWord op zero cbv tag c b a) = .error (.reservedBits zero))

/-- A word decodes exactly if it matches a row of the opcode table, `w & mask = match`, and then to a command of that row's
opcode (30_encoding.md, sections 3 and 6). -/
def Obligations.DecodedWordsMatchTheirTableRow : Prop :=
  (∀ (w : Command) (i : Instr), decode w = .ok i →
    w &&& 0xFE00000000000000#64 = i.opcode.setWidth 64 <<< 60 ∧ 1 ≤ i.opcode.toNat ∧ i.opcode.toNat ≤ 9) ∧
  (∀ (w : Command) (op : BitVec 4), 1 ≤ op.toNat → op.toNat ≤ 9 →
    w &&& 0xFE00000000000000#64 = op.setWidth 64 <<< 60 → ∃ i : Instr, decode w = .ok i ∧ i.opcode = op) ∧
  (∀ w : Command,
    (∀ op : BitVec 4, 1 ≤ op.toNat → op.toNat ≤ 9 → w &&& 0xFE00000000000000#64 ≠ op.setWidth 64 <<< 60) →
    ∃ e, decode w = .error e)

/-- A few words of 95_test_vectors.md, section 2.1, written out by hand there. -/
def Obligations.WordsOfTheVectorsDecode : Prop :=
  decode 0x1101000000000003#64 = .ok (.mode 3#16 .input (some 1#8)) ∧
  decode 0x11010000FFFF0003#64 = .ok (.mode 3#16 .output (some 1#8)) ∧
  decode 0x2102000000010005#64 = .ok (.write 5#16 .high (some 2#8)) ∧
  decode 0x310300000000000F#64 = .ok (.toggle 15#16 (some 3#8)) ∧
  decode 0x41040050003000F0#64 = .ok (.bulkWrite 0x00F0#16 0x0030#16 0x0050#16 (some 4#8)) ∧
  decode 0x5105000000008001#64 = .ok (.bulkToggle 0x8001#16 (some 5#8)) ∧
  decode 0x61060000000C000F#64 = .ok (.bulkSetInt 0x000F#16 0x000C#16 (some 6#8)) ∧
  decode 0x7000000000000000#64 = .ok (.bulkRead none) ∧
  decode 0x80A5000000000000#64 = .ok (.setIH 0xA5#8) ∧
  decode 0x9000000000000000#64 = .ok .clrIH

/-! ## Commands -/

/-- A step runs the decoded command: when the event at the head is a command word that decodes to `i`, the step is `exec i`
with that event consumed (40_engine_common.md, section 2). -/
def Obligations.StepRunsTheDecodedCommand : Prop :=
  ∀ (s : State) (w : Command) (i : Instr) (rest : List Event),
    s.input = .cmd w :: rest → decode w = .ok i → step s = exec i { s with input := rest }

/-- R122: the response to a command word is that of the first check that holds, in R122's order, and it is the step's first
output; a rejected command writes no state register and puts out nothing else; an accepted one decodes to a command and the
step is that command's. -/
def Obligations.CommandChecksInOrder : Prop :=
  ∀ (s : State) (w : Command) (rest : List Event), s.input = .cmd w :: rest →
    ((checksOfR122 w s).accepted = false →
      step s = .next { s with input := rest, out := s.out ++ [.resp (checksOfR122 w s)] }) ∧
    ((checksOfR122 w s).accepted = true →
      ∃ (i : Instr) (t : State) (o : List Output), decode w = .ok i ∧ i.wellFormed = true ∧
        step s = exec i { s with input := rest } ∧ step s = .next t ∧
        t.out = s.out ++ .resp { accepted := true, reason := .none } :: o ∧ o.all (fun x => !isResponse x) = true)

/-- R221: a legal command that arrives in any of the 17 states other than `Idle` is rejected `BUSY`: only the response. -/
def Obligations.BusyEngineRejectsCommands : Prop :=
  ∀ (i : Instr) (s : State), i.wellFormed = true → s.state ≠ .idle →
    exec i s = .next { s with out := s.out ++ [.resp { accepted := false, reason := .busy }] }

/-- R222: MODE, WRITE and TOGGLE with a pin of 16 or more are rejected `INVALID_PIN`, busy or not; no other command has a pin
to check; a Builder's SET with such a pin changes nothing. -/
def Obligations.InvalidPinIsRejected : Prop :=
  (∀ (pin : Word) (dir : Direction) (level : Level) (target : Option Tag) (s : State), 16 ≤ pin.toNat →
    exec (.mode pin dir target) s = .next { s with out := s.out ++ [.resp { accepted := false, reason := .invalidPin }] } ∧
    exec (.write pin level target) s = .next { s with out := s.out ++ [.resp { accepted := false, reason := .invalidPin }] } ∧
    exec (.toggle pin target) s = .next { s with out := s.out ++ [.resp { accepted := false, reason := .invalidPin }] }) ∧
  (∀ (i : Instr) (s t : State) (o : List Output), exec i s = .next t →
    t.out = s.out ++ .resp { accepted := false, reason := .invalidPin } :: o →
    ∃ (pin : Word) (dir : Direction) (level : Level) (target : Option Tag), 16 ≤ pin.toNat ∧
      (i = .mode pin dir target ∨ i = .write pin level target ∨ i = .toggle pin target)) ∧
  (∀ (b : Builder) (p : Nat) (dir : Direction) (val : Level), 16 ≤ p → applyOp b (.set p dir val) = b)

/-- MODE with a valid pin in `Idle`: its acceptance step, and nothing else changes (41_single_pin.md, section 1). -/
def Obligations.ModeAcceptance : Prop :=
  ∀ (pin : Word) (dir : Direction) (target : Option Tag) (s : State), pin.toNat < 16 → s.state = .idle →
    exec (.mode pin dir target) s = .next { s with
      state := .readDirection
      kind := .mode
      pins := 1#16 <<< pin.toNat
      pa := if dir = .input then 1#16 <<< pin.toNat else 0#16
      cbValid := target.isSome
      cbTag := target.getD s.cbTag
      out := s.out ++ [.resp { accepted := true, reason := .none },
        .busReq { rw := .read, addr := s.devAddr, reg := s.cfg.regConfig, len := 2#2, wdata := 0#16 }] }

/-- WRITE with a valid pin in `Idle`: its acceptance step, and nothing else changes (41_single_pin.md, section 2). -/
def Obligations.WriteAcceptance : Prop :=
  ∀ (pin : Word) (level : Level) (target : Option Tag) (s : State), pin.toNat < 16 → s.state = .idle →
    exec (.write pin level target) s = .next { s with
      state := .readOutputForWrite
      kind := .write
      pins := 1#16 <<< pin.toNat
      pa := if level = .high then 1#16 <<< pin.toNat else 0#16
      cbValid := target.isSome
      cbTag := target.getD s.cbTag
      out := s.out ++ [.resp { accepted := true, reason := .none },
        .busReq { rw := .read, addr := s.devAddr, reg := s.cfg.regOutput, len := 2#2, wdata := 0#16 }] }

/-- TOGGLE with a valid pin in `Idle`: its acceptance step; `pa` and `pb` are not written (41_single_pin.md, section 3). -/
def Obligations.ToggleAcceptance : Prop :=
  ∀ (pin : Word) (target : Option Tag) (s : State), pin.toNat < 16 → s.state = .idle →
    exec (.toggle pin target) s = .next { s with
      state := .readOutputForToggle
      kind := .toggle
      pins := 1#16 <<< pin.toNat
      cbValid := target.isSome
      cbTag := target.getD s.cbTag
      out := s.out ++ [.resp { accepted := true, reason := .none },
        .busReq { rw := .read, addr := s.devAddr, reg := s.cfg.regOutput, len := 2#2, wdata := 0#16 }] }

/-- BULKWRITE in `Idle`: its acceptance step, the directions inverted to register level (42_bulk.md, section 1). -/
def Obligations.BulkWriteAcceptance : Prop :=
  ∀ (pinsMask directionsMask valuesMask : Word) (target : Option Tag) (s : State), s.state = .idle →
    exec (.bulkWrite pinsMask directionsMask valuesMask target) s = .next { s with
      state := .readDirectionForBulkSet
      kind := .bulkWrite
      pins := pinsMask
      pa := ~~~directionsMask
      pb := valuesMask
      cbValid := target.isSome
      cbTag := target.getD s.cbTag
      out := s.out ++ [.resp { accepted := true, reason := .none },
        .busReq { rw := .read, addr := s.devAddr, reg := s.cfg.regConfig, len := 2#2, wdata := 0#16 }] }

/-- BULKTOGGLE in `Idle`: its acceptance step, `pa` and `pb` not written (42_bulk.md, section 2). -/
def Obligations.BulkToggleAcceptance : Prop :=
  ∀ (pinsMask : Word) (target : Option Tag) (s : State), s.state = .idle →
    exec (.bulkToggle pinsMask target) s = .next { s with
      state := .readOutputForToggle
      kind := .bulkToggle
      pins := pinsMask
      cbValid := target.isSome
      cbTag := target.getD s.cbTag
      out := s.out ++ [.resp { accepted := true, reason := .none },
        .busReq { rw := .read, addr := s.devAddr, reg := s.cfg.regOutput, len := 2#2, wdata := 0#16 }] }

/-- BULKSETINT in `Idle`: its acceptance step, `pa <- a` and the interrupt mask uninverted (42_bulk.md, section 3). -/
def Obligations.BulkSetIntAcceptance : Prop :=
  ∀ (pinsMask valuesMask : Word) (target : Option Tag) (s : State), s.state = .idle →
    exec (.bulkSetInt pinsMask valuesMask target) s = .next { s with
      state := .readInterruptDirection
      kind := .bulkSetInt
      pins := pinsMask
      pa := pinsMask
      pb := valuesMask
      cbValid := target.isSome
      cbTag := target.getD s.cbTag
      out := s.out ++ [.resp { accepted := true, reason := .none },
        .busReq { rw := .read, addr := s.devAddr, reg := s.cfg.regConfig, len := 2#2, wdata := 0#16 }] }

/-- BULKREAD in `Idle`: its acceptance step, `pins`, `pa` and `pb` not written (42_bulk.md, section 4). -/
def Obligations.BulkReadAcceptance : Prop :=
  ∀ (target : Option Tag) (s : State), s.state = .idle →
    exec (.bulkRead target) s = .next { s with
      state := .readInputForServicing
      kind := .bulkRead
      cbValid := target.isSome
      cbTag := target.getD s.cbTag
      out := s.out ++ [.resp { accepted := true, reason := .none },
        .busReq { rw := .read, addr := s.devAddr, reg := s.cfg.regInput, len := 2#2, wdata := 0#16 }] }

/-- SETIH: in `Idle` the handler slot takes `h`, replacing what it held, and nothing else changes: `irq_pending` and the
state stay, no bus operation and no `Done`; when busy it is rejected with no effect (43_handler_builder.md, section 1). -/
def Obligations.SetIhEffect : Prop :=
  ∀ (h : Tag) (s : State),
    (s.state = .idle → exec (.setIH h) s = .next { s with
      ihValid := true, ihTag := h, out := s.out ++ [.resp { accepted := true, reason := .none }] }) ∧
    (s.state ≠ .idle → exec (.setIH h) s = .next { s with
      out := s.out ++ [.resp { accepted := false, reason := .busy }] })

/-- CLRIH: in `Idle` the handler slot is empty, `ih_tag` keeps its value, and nothing else changes, a handler registered or
not; when busy it is rejected with no effect (43_handler_builder.md, section 1). -/
def Obligations.ClrIhEffect : Prop :=
  ∀ s : State,
    (s.state = .idle → exec .clrIH s = .next { s with
      ihValid := false, out := s.out ++ [.resp { accepted := true, reason := .none }] }) ∧
    (s.state ≠ .idle → exec .clrIH s = .next { s with
      out := s.out ++ [.resp { accepted := false, reason := .busy }] })

/-- R123 (with R24's table): the acceptance step of every sequence command, by the tables of kinds, first reads and first
states. -/
def Obligations.SequenceAcceptanceByTheTables : Prop :=
  ∀ (i : Instr) (k : Kind) (s : State), sequenceKind i = some k → i.wellFormed = true → s.state = .idle →
    exec i s = .next { s with
      state := firstState k
      kind := k
      pins := loadedPins i s.pins
      pa := loadedPa i s.pa
      pb := loadedPb i s.pb
      cbValid := (completionTarget i).isSome
      cbTag := (completionTarget i).getD s.cbTag
      out := s.out ++ [.resp { accepted := true, reason := .none },
        .busReq { rw := .read, addr := s.devAddr, reg := regId s.cfg (firstRead k), len := 2#2, wdata := 0#16 }] }

/-! ## Arithmetic -/

/-- R127: the merge rule and its laws (a) to (h), and the toggle steps' `old ^ pins` bit by bit. -/
def Obligations.MergeRuleAndLaws : Prop :=
  ∀ (old pins desired : Word),
    merge old pins desired = (old &&& ~~~pins) ||| (pins &&& desired) ∧
    (∀ i < 16, pins.getLsbD i = false → (merge old pins desired).getLsbD i = old.getLsbD i) ∧
    (∀ i < 16, pins.getLsbD i = true → (merge old pins desired).getLsbD i = desired.getLsbD i) ∧
    merge old 0x0000#16 desired = old ∧
    merge old 0xFFFF#16 desired = desired ∧
    merge old pins pins = old ||| pins ∧
    merge old pins 0x0000#16 = old &&& ~~~pins ∧
    merge old pins desired = merge old pins (desired &&& pins) ∧
    merge (merge old pins desired) pins desired = merge old pins desired ∧
    toggleBits old pins = old ^^^ pins ∧
    (∀ i < 16, pins.getLsbD i = false → (toggleBits old pins).getLsbD i = old.getLsbD i) ∧
    (∀ i < 16, pins.getLsbD i = true → (toggleBits old pins).getLsbD i = !old.getLsbD i)

/-! ## Completion steps -/

/-- R151, R155: completion in `ReadDirection` (over `CFG`) and in `ReadOutputForWrite` (over `OUT`): a write only if the merged
value differs from the value read, and with one pin controlled it then differs in that bit only. -/
def Obligations.ModeAndWriteReadCompletions : Prop :=
  ∀ (s : State) (rdata : Word) (rest : List Event), s.input = .busDone true rdata :: rest →
    let new := (rdata &&& ~~~s.pins) ||| (s.pins &&& s.pa)
    (s.state = .readDirection ∨ s.state = .readOutputForWrite → new = rdata →
      step s = .next { s with input := rest, resStatus := .ok, resValue := 0x0000#16, state := .signalDone }) ∧
    (s.state = .readDirection → new ≠ rdata → step s = .next { s with
      input := rest
      state := .writeDirection
      out := s.out ++ [.busReq { rw := .write, addr := s.devAddr, reg := s.cfg.regConfig, len := 2#2, wdata := new }] }) ∧
    (s.state = .readOutputForWrite → new ≠ rdata → step s = .next { s with
      input := rest
      state := .writeOutputForWrite
      out := s.out ++ [.busReq { rw := .write, addr := s.devAddr, reg := s.cfg.regOutput, len := 2#2, wdata := new }] }) ∧
    (∀ p < 16, s.pins = 1#16 <<< p → ∀ j < 16, j ≠ p → new.getLsbD j = rdata.getLsbD j)

/-- R159: completion in `ReadOutputForToggle`, whatever the kind: every bit in `pins` inverted, and always a write. -/
def Obligations.ReadOutputForToggleCompletion : Prop :=
  ∀ (s : State) (rdata : Word) (rest : List Event), s.state = .readOutputForToggle →
    s.input = .busDone true rdata :: rest →
    step s = .next { s with
      input := rest
      state := .writeOutputForToggle
      out := s.out ++ [.busReq
        { rw := .write, addr := s.devAddr, reg := s.cfg.regOutput, len := 2#2, wdata := rdata ^^^ s.pins }] }

/-- R171, R172, R173: the first three completions of BULKWRITE. -/
def Obligations.BulkWriteCompletions : Prop :=
  ∀ (s : State) (rdata : Word) (rest : List Event), s.input = .busDone true rdata :: rest →
    (s.state = .readDirectionForBulkSet → step s = .next { s with
      input := rest
      state := .writeDirectionForBulkSet
      out := s.out ++ [.busReq
        { rw := .write, addr := s.devAddr, reg := s.cfg.regConfig, len := 2#2, wdata := (rdata &&& ~~~s.pins) ||| (s.pins &&& s.pa) }] }) ∧
    (s.state = .writeDirectionForBulkSet → step s = .next { s with
      input := rest
      state := .readOutputForBulkSet
      out := s.out ++ [.busReq
        { rw := .read, addr := s.devAddr, reg := s.cfg.regOutput, len := 2#2, wdata := 0#16 }] }) ∧
    (s.state = .readOutputForBulkSet → step s = .next { s with
      input := rest
      state := .writeOutputForBulkSet
      out := s.out ++ [.busReq
        { rw := .write, addr := s.devAddr, reg := s.cfg.regOutput, len := 2#2, wdata := (rdata &&& ~~~s.pins) ||| (s.pins &&& s.pb) }] })

/-- R181, R182, R183: the first three completions of BULKSETINT; the `CFG` value written is `rdata | pins`. -/
def Obligations.BulkSetIntCompletions : Prop :=
  ∀ (s : State) (rdata : Word) (rest : List Event), s.input = .busDone true rdata :: rest →
    (s.state = .readInterruptDirection → step s = .next { s with
      input := rest
      state := .writeInterruptDirection
      out := s.out ++ [.busReq
        { rw := .write, addr := s.devAddr, reg := s.cfg.regConfig, len := 2#2, wdata := (rdata &&& ~~~s.pins) ||| (s.pins &&& s.pa) }] }) ∧
    (s.pa = s.pins → (rdata &&& ~~~s.pins) ||| (s.pins &&& s.pa) = rdata ||| s.pins) ∧
    (s.state = .writeInterruptDirection → step s = .next { s with
      input := rest
      state := .readInterruptMask
      out := s.out ++ [.busReq
        { rw := .read, addr := s.devAddr, reg := s.cfg.regIntMask, len := 2#2, wdata := 0#16 }] }) ∧
    (s.state = .readInterruptMask → step s = .next { s with
      input := rest
      state := .writeInterruptMask
      out := s.out ++ [.busReq
        { rw := .write, addr := s.devAddr, reg := s.cfg.regIntMask, len := 2#2, wdata := (rdata &&& ~~~s.pins) ||| (s.pins &&& s.pb) }] })

/-- R152, R156, R160, R174, R184: the last write of every sequence stages `OK` with no value, whatever data came. -/
def Obligations.LastWriteCompletions : Prop :=
  ∀ (s : State) (rdata : Word) (rest : List Event), s.input = .busDone true rdata :: rest →
    s.state = .writeDirection ∨ s.state = .writeOutputForWrite ∨ s.state = .writeOutputForToggle ∨
      s.state = .writeOutputForBulkSet ∨ s.state = .writeInterruptMask →
    step s = .next { s with input := rest, resStatus := .ok, resValue := 0#16, state := .signalDone }

/-- R235, R236: the two reads of a service and the one of BULKREAD. -/
def Obligations.ServiceAndBulkReadCompletions : Prop :=
  ∀ (s : State) (rdata : Word) (rest : List Event), s.input = .busDone true rdata :: rest →
    (s.state = .readInputForServicing → s.kind = .service → step s = .next { s with
      input := rest
      inSnapshot := rdata
      state := .readInterruptStatus
      out := s.out ++ [.busReq
        { rw := .read, addr := s.devAddr, reg := s.cfg.regIntStat, len := 2#2, wdata := 0#16 }] }) ∧
    (s.state = .readInputForServicing → s.kind = .bulkRead → step s = .next { s with
      input := rest, inSnapshot := rdata, resStatus := .ok, resValue := rdata, state := .signalDone }) ∧
    (s.state = .readInterruptStatus → step s = .next { s with
      input := rest, resStatus := .ok, resValue := rdata, state := .signalDone })

/-- R125: a failure with a bus operation outstanding aborts the sequence where it stands, whatever the state and the kind;
`in_snapshot` is not written and nothing is issued; `Notify` then reports the failure, to the target of a command or to the
handler of a service if there is one, and returns to `Idle`, from where a latched interrupt is served at once under
IMMEDIATE. -/
def Obligations.BusFailureAbortsTheSequence : Prop :=
  ∀ (s : State) (rdata : Word) (rest : List Event), busOutstanding s.state = true →
    let reported : List Output :=
      if isSequenceKind s.kind = true ∧ s.cbValid = true then
        [.done { tag := s.cbTag, status := .busFail, value := 0x0000#16 }]
      else if s.kind = .service ∧ s.ihValid = true then
        [.irqNotify { tag := s.ihTag, status := .busFail, changed := 0x0000#16, values := 0x0000#16 }]
      else []
    (s.input = .busDone false rdata :: rest →
      step s = .next { s with input := rest, resStatus := .busFail, resValue := 0x0000#16, state := .signalDone }) ∧
    (s.input = .busDone false rdata :: .notify :: rest → ¬(s.irqPending = true ∧ s.cfg.policy = .immediate) →
      Sys2Proof.core.run 2 s = .next { s with
        input := rest, resStatus := .busFail, resValue := 0x0000#16, cbValid := false, kind := .none, state := .idle
        out := s.out ++ reported }) ∧
    (s.input = .busDone false rdata :: .notify :: rest → s.irqPending = true ∧ s.cfg.policy = .immediate →
      Sys2Proof.core.run 2 s = .next { s with
        input := rest, resStatus := .busFail, resValue := 0x0000#16, cbValid := false, kind := .service
        irqPending := false, state := .readInputForServicing
        out := s.out ++ reported ++ [.busReq
          { rw := .read, addr := s.devAddr, reg := s.cfg.regInput, len := 2#2, wdata := 0#16 }] })

/-- A completion with nothing outstanding is ignored, whatever it carries (40_engine_common.md, section 3). -/
def Obligations.SpuriousCompletionIsIgnored : Prop :=
  ∀ (s : State) (ok : Bool) (rdata : Word) (rest : List Event), s.input = .busDone ok rdata :: rest →
    s.state = .idle ∨ s.state = .signalDone → step s = .next { s with input := rest }

/-! ## Notify, the interrupt, Reset -/

/-- The `Notify` step in `SignalDone`: what it emits, the return to `Idle`, and the service it starts (40_engine_common.md,
section 4). -/
def Obligations.NotifyDeliversAndReturns : Prop :=
  ∀ (s : State) (rest : List Event), s.state = .signalDone → s.input = .notify :: rest →
    let emitted : List Output :=
      if isSequenceKind s.kind = true ∧ s.cbValid = true then
        [.done { tag := s.cbTag, status := s.resStatus, value := s.resValue }]
      else if s.kind = .service ∧ s.ihValid = true then
        [.irqNotify (if s.resStatus = .ok
          then { tag := s.ihTag, status := .ok, changed := s.resValue, values := s.inSnapshot }
          else { tag := s.ihTag, status := .busFail, changed := 0x0000#16, values := 0x0000#16 })]
      else []
    (s.irqPending = true ∧ s.cfg.policy = .immediate → step s = .next { s with
      input := rest, cbValid := false, kind := .service, irqPending := false, state := .readInputForServicing
      out := s.out ++ emitted ++ [.busReq
        { rw := .read, addr := s.devAddr, reg := s.cfg.regInput, len := 2#2, wdata := 0#16 }] }) ∧
    (¬(s.irqPending = true ∧ s.cfg.policy = .immediate) → step s = .next { s with
      input := rest, cbValid := false, kind := .none, state := .idle, out := s.out ++ emitted })

/-- With no event left the Engine takes `Notify` by itself when it is due, and otherwise waits and changes nothing (the
model's choice of when `Notify` is taken is log entry 3; 40_engine_common.md section 1, 60_exceptions.md section 5). -/
def Obligations.EngineMovesByItselfOnlyToNotify : Prop :=
  ∀ s : State, s.input = [] →
    (s.state ≠ .signalDone → step s = .next s) ∧
    (s.state = .signalDone → ∃ t u : State, step s = .next t ∧ step { s with input := [.notify] } = .next u ∧ t = u)

/-- R230: an edge sets the latch and, in `Idle`, starts the service in the same step, under both policies; while
busy it writes `irq_pending` and nothing else. -/
def Obligations.IrqEdgeLatchesOrStartsTheService : Prop :=
  ∀ (s : State) (rest : List Event), s.input = .irqEdge :: rest →
    (s.state = .idle → step s = .next { s with
      input := rest, irqPending := false, kind := .service, cbValid := false, state := .readInputForServicing
      out := s.out ++ [.busReq
        { rw := .read, addr := s.devAddr, reg := s.cfg.regInput, len := 2#2, wdata := 0#16 }] }) ∧
    (s.state ≠ .idle → step s = .next { s with input := rest, irqPending := true })

/-- The POLLED policy: a tick that finds `Idle` with the latch set starts the service, any other tick does nothing, and
`Notify` starts none (60_exceptions.md, section 2). -/
def Obligations.PolledServiceStartsAtATick : Prop :=
  ∀ (s : State) (rest : List Event), s.cfg.policy = .polled →
    (s.input = .pollTick :: rest → s.state = .idle → s.irqPending = true → step s = .next { s with
      input := rest, irqPending := false, kind := .service, cbValid := false, state := .readInputForServicing
      out := s.out ++ [.busReq
        { rw := .read, addr := s.devAddr, reg := s.cfg.regInput, len := 2#2, wdata := 0#16 }] }) ∧
    (s.input = .pollTick :: rest → ¬(s.state = .idle ∧ s.irqPending = true) → step s = .next { s with input := rest }) ∧
    (s.input = .notify :: rest → s.state = .signalDone →
      ∃ t : State, step s = .next t ∧ t.state = .idle ∧ t.irqPending = s.irqPending)

/-- R270: a Reset in any state: every register the rule gives a value takes it, and nothing is emitted; what the eight
unspecified registers hold afterwards is not said. -/
def Obligations.ResetStepFromAnyState : Prop :=
  ∀ (s : State) (rest : List Event), s.input = .reset :: rest →
    ∃ t : State, step s = .next t ∧ t.input = rest ∧ t.state = .idle ∧ t.kind = .none ∧ t.cbValid = false ∧
      t.ihValid = false ∧ t.irqPending = false ∧
      t.devAddr = (if s.cfg.addrSel then s.cfg.devAddr1 else s.cfg.devAddr0) ∧ t.out = s.out ∧ t.cfg = s.cfg

/-- R37: the values right after reset that the rule gives, and no bus operation issued. -/
def Obligations.ResetStateHoldsTheStatedValues : Prop :=
  State.reset.state = .idle ∧ State.reset.kind = .none ∧ State.reset.cbValid = false ∧ State.reset.ihValid = false ∧
  State.reset.irqPending = false ∧
  State.reset.devAddr = (if State.reset.cfg.addrSel then State.reset.cfg.devAddr1 else State.reset.cfg.devAddr0) ∧
  State.reset.out = []

/-! ## Invariants and whole-machine rules -/

/-- The invariant of the Engine holds at reset (10_state.md, section 6). -/
def Obligations.EngineInvHoldsAtReset : Prop := EngineInv State.reset

/-- The invariant of the Engine is kept by every step: R21 and R33 (b), (e), (g), R24, R26 and R30 as the fields of
`EngineInv` say (10_state.md, section 6). -/
def Obligations.EngineInvIsKeptByEveryStep : Prop :=
  ∀ s t : State, EngineInv s → step s = .next t → EngineInv t

/-- Every (state, event) pair leads where the transition table says (40_engine_common.md, section 6). The model's choices where
the table is silent: `Notify` is taken when no event waits (log entry 3); a `Notify` that is not enabled and a tick under
IMMEDIATE leave the state (log entry 4); a Builder's event leaves it, but for a COMMIT whose command is accepted (log entry
13); every kind but Service leaves `ReadInputForServicing` as BULKREAD does (log entry 18). -/
def Obligations.StepsFollowTheTransitionTable : Prop :=
  ∀ s t : State, step s = .next t → t.state = tableNext (nextEvent s) s

/-- Every step answers a next state ("No operation is fatal to the process", 60_exceptions.md opening) but for a call on a Builder
that was committed or never created, which stops the machine by the model's choice (log entry 13; 43_handler_builder.md,
section 2). A Builder's creation adds one with all fields zero (10_state.md, section 7) and changes nothing else. -/
def Obligations.OnlyBuilderMisuseStopsTheMachine : Prop :=
  (∀ s : State, isBuilderEvent (nextEvent s) = false → ∃ t : State, step s = .next t) ∧
  (∀ (s : State) (rest : List Event), s.input = .builderNew :: rest →
    step s = .next { s with
      input := rest
      builders := s.builders ++ [
        { pins := 0#16, dirs := 0#16, vals := 0#16, armed := false, cbv := false, tag := 0#8, finished := false }] }) ∧
  (∀ (s : State) (n : Nat) (rest : List Event),
    (∀ b : Builder, s.builders[n]? = some b → b.finished = false →
      (∀ op : BuilderOp, s.input = .builderOp n op :: rest → ∃ t : State, step s = .next t) ∧
      (s.input = .builderCommit n :: rest → ∃ t : State, step s = .next t)) ∧
    (∀ b : Builder, s.builders[n]? = some b → b.finished = true →
      (∀ op : BuilderOp, s.input = .builderOp n op :: rest → step s = .fault (.builderFinished n)) ∧
      (s.input = .builderCommit n :: rest → step s = .fault (.builderFinished n))) ∧
    (s.builders[n]? = none →
      (∀ op : BuilderOp, s.input = .builderOp n op :: rest → step s = .fault (.noSuchBuilder n)) ∧
      (s.input = .builderCommit n :: rest → step s = .fault (.noSuchBuilder n))))

/-- While a bus operation is outstanding, no event but Reset writes the pending request, the handler slot or the bus address
(10_state.md sections 3 and 6, 43_handler_builder.md section 1). -/
def Obligations.PendingRequestAndHandlerAreStable : Prop :=
  ∀ s t : State, busOutstanding s.state = true → nextEvent s ≠ .reset → step s = .next t →
    t.pins = s.pins ∧ t.pa = s.pa ∧ t.pb = s.pb ∧ t.kind = s.kind ∧ t.cbValid = s.cbValid ∧ t.cbTag = s.cbTag ∧
    t.ihValid = s.ihValid ∧ t.ihTag = s.ihTag ∧ t.devAddr = s.devAddr

/-- No step other than `Notify` in `SignalDone` emits a notification, and `Notify` emits at most one
(40_engine_common.md, section 4). -/
def Obligations.OnlyNotifyNotifies : Prop :=
  ∀ s t : State, step s = .next t →
    ((newOutputs s t).filter isNotification).length ≤ 1 ∧
    ((newOutputs s t).any isNotification = true → s.state = .signalDone ∧ nextEvent s = .notify)

/-- R67: a step issues at most one bus operation, exactly when it enters the state named after it, with the fields the rule
gives. -/
def Obligations.BusRequestsAreTheStatesOwn : Prop :=
  ∀ s t : State, step s = .next t →
    (t.state = s.state ∨ busOutstanding t.state = false → (newOutputs s t).filter isBusReq = []) ∧
    (∀ (op : BusOp) (r : RemoteReg), t.state ≠ s.state → outstanding t.state = some (op, r) →
      ∃ v : Word, (op = .read → v = 0#16) ∧ (newOutputs s t).filter isBusReq =
        [.busReq { rw := op, addr := s.devAddr, reg := regId s.cfg r, len := 2#2, wdata := v }])

/-- The parameters never change and the bus address only at a Reset (10_state.md, sections 4 and 7). That the outputs only grow is
a fact of the model's own record `State.out`, the model's choice (log entry 5). -/
def Obligations.ParametersAndPastOutputsAreFixed : Prop :=
  ∀ s t : State, step s = .next t →
    t.cfg = s.cfg ∧ (nextEvent s ≠ .reset → t.devAddr = s.devAddr) ∧ ∃ o : List Output, t.out = s.out ++ o

/-- No interrupt is dropped: an edge is latched or served at once, and the latch is cleared only by a Reset or by a service
that starts (60_exceptions.md, section 2). -/
def Obligations.NoInterruptIsDropped : Prop :=
  ∀ s t : State, step s = .next t → nextEvent s ≠ .reset →
    (s.irqPending = true ∨ nextEvent s = .irqEdge) →
    t.irqPending = true ∨
      (s.state ≠ .readInputForServicing ∧ t.state = .readInputForServicing ∧ t.kind = .service ∧
        .busReq { rw := .read, addr := s.devAddr, reg := s.cfg.regInput, len := 2#2, wdata := 0#16 } ∈ newOutputs s t)

/-- Without a completion or a Reset no step leaves a state that waits for the bus, and the Engine stays parked for any number of
events: every command is rejected (`BUSY` if legal), edges only set `irq_pending`, nothing is notified or issued
(70_reset_and_hazards.md, section 3). That a `Notify` outside `SignalDone` and a tick under IMMEDIATE do nothing is the model's
choice (log entry 4), and so is the step of a Builder's event, covered by the second clause (log entry 13). -/
def Obligations.HungBusParksTheEngine : Prop :=
  (∀ (evs : List Event) (s : State) (rest : List Event), evs.all parks = true → busOutstanding s.state = true →
    s.input = evs ++ rest →
    Sys2Proof.core.run evs.length s = .next { s with
      input := rest
      irqPending := s.irqPending || evs.any isIrqEdge
      out := s.out ++ evs.filterMap parkedOutput }) ∧
  (∀ s t : State, busOutstanding s.state = true → (∀ ok r, nextEvent s ≠ .busDone ok r) → nextEvent s ≠ .reset →
    step s = .next t → t.state = s.state)

/-- Every sequence ends: from any state that waits for the bus, four completions, whatever they carry, and one `Notify` lead
back to `Idle`, or into the service of a latched interrupt under IMMEDIATE, with exactly one `Done` for a command that has a
target and none otherwise (70_reset_and_hazards.md section 4, 40_engine_common.md section 4). -/
def Obligations.EverySequenceEndsWithOneDone : Prop :=
  ∀ (s : State) (k1 k2 k3 k4 : Bool) (r1 r2 r3 r4 : Word) (rest : List Event), busOutstanding s.state = true →
    s.input = .busDone k1 r1 :: .busDone k2 r2 :: .busDone k3 r3 :: .busDone k4 r4 :: .notify :: rest →
    ∃ (t : State) (o : List Output), Sys2Proof.core.run 5 s = .next t ∧ t.input = rest ∧
      t.state = stateAfterNotify s ∧ t.out = s.out ++ o ∧
      (o.filter isDone).length = if isSequenceKind s.kind && s.cbValid then 1 else 0

/-- R33 (f), as noninterference: two states that differ only in registers no later step reads before writing take the same
step: the same outputs, and again a difference in such registers only (10_state.md, section 6). -/
def Obligations.DeadRegistersAreNeverRead : Prop :=
  ∀ s t : State, EngineInv s → EngineInv t → scrub s = scrub t → sameButDead (step s) (step t)

/-! ## Whole sequences -/

/-- MODE on a pin whose direction bit is already as requested makes one read of `CFG` and no write; on any other it
makes one write, which differs from the value read in that bit only; either way one `Done{OK}` with a target, none
without (41_single_pin.md, section 1). -/
def Obligations.ModeSequence : Prop :=
  ∀ (s : State) (pin : Word) (dir : Direction) (target : Option Tag) (rdata x : Word) (rest : List Event), s.state = .idle →
    pin.toNat < 16 → (s.irqPending = true → s.cfg.policy = .polled) →
    let accepted := Output.resp { accepted := true, reason := .none }
    let readCfg := Output.busReq { rw := .read, addr := s.devAddr, reg := s.cfg.regConfig, len := 2#2, wdata := 0#16 }
    (s.input = .cmd (encode (.mode pin dir target)) :: .busDone true rdata :: .notify :: rest →
      rdata.getLsbD pin.toNat = decide (dir = .input) →
      ∃ t : State, Sys2Proof.core.run 3 s = .next t ∧ t.state = .idle ∧ t.input = rest ∧
        t.out = s.out ++ [accepted, readCfg] ++ doneOk target 0x0000#16) ∧
    (s.input = .cmd (encode (.mode pin dir target)) :: .busDone true rdata :: .busDone true x :: .notify :: rest →
      rdata.getLsbD pin.toNat ≠ decide (dir = .input) →
      ∃ (t : State) (v : Word), Sys2Proof.core.run 4 s = .next t ∧ t.state = .idle ∧ t.input = rest ∧
        t.out = s.out ++ [accepted, readCfg,
          .busReq { rw := .write, addr := s.devAddr, reg := s.cfg.regConfig, len := 2#2, wdata := v }] ++ doneOk target 0x0000#16 ∧
        ∀ j < 16, v.getLsbD j = if j = pin.toNat then !rdata.getLsbD j else rdata.getLsbD j)

/-- WRITE, as MODE over `OUT`, with no inversion: the bit is compared with the level (41_single_pin.md, section 2). -/
def Obligations.WriteSequence : Prop :=
  ∀ (s : State) (pin : Word) (level : Level) (target : Option Tag) (rdata x : Word) (rest : List Event), s.state = .idle →
    pin.toNat < 16 → (s.irqPending = true → s.cfg.policy = .polled) →
    let accepted := Output.resp { accepted := true, reason := .none }
    let readOut := Output.busReq { rw := .read, addr := s.devAddr, reg := s.cfg.regOutput, len := 2#2, wdata := 0#16 }
    (s.input = .cmd (encode (.write pin level target)) :: .busDone true rdata :: .notify :: rest →
      rdata.getLsbD pin.toNat = decide (level = .high) →
      ∃ t : State, Sys2Proof.core.run 3 s = .next t ∧ t.state = .idle ∧ t.input = rest ∧
        t.out = s.out ++ [accepted, readOut] ++ doneOk target 0x0000#16) ∧
    (s.input = .cmd (encode (.write pin level target)) :: .busDone true rdata :: .busDone true x :: .notify :: rest →
      rdata.getLsbD pin.toNat ≠ decide (level = .high) →
      ∃ (t : State) (v : Word), Sys2Proof.core.run 4 s = .next t ∧ t.state = .idle ∧ t.input = rest ∧
        t.out = s.out ++ [accepted, readOut,
          .busReq { rw := .write, addr := s.devAddr, reg := s.cfg.regOutput, len := 2#2, wdata := v }] ++ doneOk target 0x0000#16 ∧
        ∀ j < 16, v.getLsbD j = if j = pin.toNat then !rdata.getLsbD j else rdata.getLsbD j)

/-- R175: BULKWRITE makes two reads and two writes in the order (read-direction, write-direction, read-output,
write-output), whether anything changes or not; in each written register a bit outside pinsMask is as it was read, a bit
inside is as requested (direction bits inverted to register level). -/
def Obligations.BulkWriteSequence : Prop :=
  ∀ (s : State) (m d v : Word) (target : Option Tag) (cfg x out y : Word) (rest : List Event), s.state = .idle →
    (s.irqPending = true → s.cfg.policy = .polled) →
    s.input = .cmd (encode (.bulkWrite m d v target)) :: .busDone true cfg :: .busDone true x :: .busDone true out ::
      .busDone true y :: .notify :: rest →
    ∃ (t : State) (cfg' out' : Word), Sys2Proof.core.run 6 s = .next t ∧ t.state = .idle ∧ t.input = rest ∧
      t.out = s.out ++ [.resp { accepted := true, reason := .none },
        .busReq { rw := .read, addr := s.devAddr, reg := s.cfg.regConfig, len := 2#2, wdata := 0#16 },
        .busReq { rw := .write, addr := s.devAddr, reg := s.cfg.regConfig, len := 2#2, wdata := cfg' },
        .busReq { rw := .read, addr := s.devAddr, reg := s.cfg.regOutput, len := 2#2, wdata := 0#16 },
        .busReq { rw := .write, addr := s.devAddr, reg := s.cfg.regOutput, len := 2#2, wdata := out' }] ++ doneOk target 0x0000#16 ∧
      (∀ j < 16, cfg'.getLsbD j = if m.getLsbD j then !d.getLsbD j else cfg.getLsbD j) ∧
      (∀ j < 16, out'.getLsbD j = if m.getLsbD j then v.getLsbD j else out.getLsbD j)

/-- R177 and the source's `toggle`: BULKTOGGLE of a mask and TOGGLE of a valid pin make one read and one write of `OUT`
always, and the value written flips exactly the bits of the mask; one `Done{OK}` with a target, none without. -/
def Obligations.ToggleSequences : Prop :=
  ∀ (s : State) (i : Instr) (m : Word) (target : Option Tag) (rdata x : Word) (rest : List Event), s.state = .idle →
    (s.irqPending = true → s.cfg.policy = .polled) →
    (i = .bulkToggle m target ∨ ∃ pin : Word, pin.toNat < 16 ∧ i = .toggle pin target ∧ m = 1#16 <<< pin.toNat) →
    s.input = .cmd (encode i) :: .busDone true rdata :: .busDone true x :: .notify :: rest →
    ∃ (t : State) (v : Word), Sys2Proof.core.run 4 s = .next t ∧ t.state = .idle ∧ t.input = rest ∧
      t.out = s.out ++ [.resp { accepted := true, reason := .none },
        .busReq { rw := .read, addr := s.devAddr, reg := s.cfg.regOutput, len := 2#2, wdata := 0#16 },
        .busReq { rw := .write, addr := s.devAddr, reg := s.cfg.regOutput, len := 2#2, wdata := v }] ++ doneOk target 0x0000#16 ∧
      ∀ j < 16, v.getLsbD j = if m.getLsbD j then !rdata.getLsbD j else rdata.getLsbD j

/-- BULKSETINT makes two reads and two writes in the order (read `CFG`, write `CFG`, read `IMASK`, write `IMASK`): every
masked pin an input, its interrupt-mask bit as requested, every other bit as read; one `Done{OK}` with a target, none without
(42_bulk.md, section 3). -/
def Obligations.BulkSetIntSequence : Prop :=
  ∀ (s : State) (m v : Word) (target : Option Tag) (cfg x imask y : Word) (rest : List Event), s.state = .idle →
    (s.irqPending = true → s.cfg.policy = .polled) →
    s.input = .cmd (encode (.bulkSetInt m v target)) :: .busDone true cfg :: .busDone true x :: .busDone true imask ::
      .busDone true y :: .notify :: rest →
    ∃ (t : State) (cfg' imask' : Word), Sys2Proof.core.run 6 s = .next t ∧ t.state = .idle ∧ t.input = rest ∧
      t.out = s.out ++ [.resp { accepted := true, reason := .none },
        .busReq { rw := .read, addr := s.devAddr, reg := s.cfg.regConfig, len := 2#2, wdata := 0#16 },
        .busReq { rw := .write, addr := s.devAddr, reg := s.cfg.regConfig, len := 2#2, wdata := cfg' },
        .busReq { rw := .read, addr := s.devAddr, reg := s.cfg.regIntMask, len := 2#2, wdata := 0#16 },
        .busReq { rw := .write, addr := s.devAddr, reg := s.cfg.regIntMask, len := 2#2, wdata := imask' }] ++ doneOk target 0x0000#16 ∧
      (∀ j < 16, cfg'.getLsbD j = (m.getLsbD j || cfg.getLsbD j)) ∧
      (∀ j < 16, imask'.getLsbD j = if m.getLsbD j then v.getLsbD j else imask.getLsbD j)

/-- BULKREAD makes exactly one bus operation, a read of `IN`, and its `Done`, with a target, carries exactly the value read; no
other register of the block is changed but the completion target, the staged result and the snapshot (42_bulk.md, section 4). -/
def Obligations.BulkReadSequence : Prop :=
  ∀ (s : State) (target : Option Tag) (rdata : Word) (rest : List Event), s.state = .idle →
    (s.irqPending = true → s.cfg.policy = .polled) →
    s.input = .cmd (encode (.bulkRead target)) :: .busDone true rdata :: .notify :: rest →
    Sys2Proof.core.run 3 s = .next { s with
      input := rest, kind := .none, cbValid := false, cbTag := target.getD s.cbTag, resStatus := .ok, resValue := rdata
      inSnapshot := rdata
      out := s.out ++ [.resp { accepted := true, reason := .none },
        .busReq { rw := .read, addr := s.devAddr, reg := s.cfg.regInput, len := 2#2, wdata := 0#16 }] ++ doneOk target rdata }

/-- R234 (with R237): a service reads `IN` first and issues the read of `ISTAT` only in the step that processes the successful
completion of that read; it delivers the `ISTAT` value and the `IN` value captured before it to the registered handler, or
makes the two reads and delivers nothing if there is none. -/
def Obligations.ServiceSequence : Prop :=
  (∀ (s : State) (inp stat : Word) (rest : List Event), s.state = .idle →
    s.input = .irqEdge :: .busDone true inp :: .busDone true stat :: .notify :: rest →
    Sys2Proof.core.run 2 s = .next { s with
      input := .busDone true stat :: .notify :: rest
      irqPending := false, kind := .service, cbValid := false, inSnapshot := inp, state := .readInterruptStatus
      out := s.out ++ [
        .busReq { rw := .read, addr := s.devAddr, reg := s.cfg.regInput, len := 2#2, wdata := 0#16 },
        .busReq { rw := .read, addr := s.devAddr, reg := s.cfg.regIntStat, len := 2#2, wdata := 0#16 }] } ∧
    Sys2Proof.core.run 4 s = .next { s with
      input := rest
      irqPending := false, kind := .none, cbValid := false, inSnapshot := inp, resStatus := .ok, resValue := stat
      out := s.out ++ [
        .busReq { rw := .read, addr := s.devAddr, reg := s.cfg.regInput, len := 2#2, wdata := 0#16 },
        .busReq { rw := .read, addr := s.devAddr, reg := s.cfg.regIntStat, len := 2#2, wdata := 0#16 }] ++
        (if s.ihValid then [.irqNotify { tag := s.ihTag, status := .ok, changed := stat, values := inp }] else []) }) ∧
  (∀ (s t : State) (q : BusReq), step s = .next t → idsDistinct s.cfg → .busReq q ∈ newOutputs s t → q.rw = .read →
    q.reg = s.cfg.regIntStat →
    s.state = .readInputForServicing ∧ s.kind = .service ∧ ∃ r : Word, nextEvent s = .busDone true r)

/-- A failed service delivers `BUS_FAIL` with zero masks to the handler, if there is one, and is not repeated, whichever of
its two reads failed (60_exceptions.md, section 2). -/
def Obligations.FailedServiceReportsNoReading : Prop :=
  ∀ (s : State) (rdata : Word) (rest : List Event), s.kind = .service → s.irqPending = false →
    s.state = .readInputForServicing ∨ s.state = .readInterruptStatus →
    s.input = .busDone false rdata :: .notify :: rest →
    Sys2Proof.core.run 2 s = .next { s with
      input := rest, state := .idle, kind := .none, cbValid := false, resStatus := .busFail, resValue := 0x0000#16
      out := s.out ++ (if s.ihValid then
        [.irqNotify { tag := s.ihTag, status := .busFail, changed := 0x0000#16, values := 0x0000#16 }] else []) }

/-! ## The Builder -/

/-- R206, R207: SET and CALLBACK on a Builder that is not finished change its accumulator as the rules say, and nothing else
of the machine. -/
def Obligations.BuilderCallsAccumulate : Prop :=
  ∀ (s : State) (n : Nat) (b : Builder) (rest : List Event), s.builders[n]? = some b → b.finished = false →
    (∀ (p : Nat) (dir : Direction) (val : Level), s.input = .builderOp n (.set p dir val) :: rest →
      step s = .next { s with
        input := rest
        builders := s.builders.set n (if p < 16 then { b with
          pins := b.pins ||| 1#16 <<< p
          dirs := (b.dirs &&& ~~~(1#16 <<< p)) ||| (if dir = .output then 1#16 <<< p else 0#16)
          vals := (b.vals &&& ~~~(1#16 <<< p)) ||| (if val = .high then 1#16 <<< p else 0#16)
          armed := true } else b) }) ∧
    (∀ t : Tag, s.input = .builderOp n (.callback t) :: rest →
      step s = .next { s with input := rest, builders := s.builders.set n { b with cbv := true, tag := t } })

/-- COMMIT finishes the Builder; armed, it sends exactly one BULKWRITE and its result is that command's response, whatever it is;
never armed, it sends nothing (43_handler_builder.md, section 2). That the command is processed in COMMIT's own step is the
model's choice (log entry 13). -/
def Obligations.BuilderCommitSendsOneBulkWrite : Prop :=
  ∀ (s : State) (n : Nat) (b : Builder) (rest : List Event), s.builders[n]? = some b → b.finished = false →
    s.input = .builderCommit n :: rest →
    let cmd : Instr := .bulkWrite b.pins b.dirs b.vals (if b.cbv then some b.tag else none)
    let s' : State := { s with input := rest, builders := s.builders.set n { b with finished := true } }
    (b.armed = true →
      ∃ (t : State) (r : Response) (o : List Output), exec cmd s' = .next t ∧ t.out = s.out ++ .resp r :: o ∧
        step s = .next { t with out := t.out ++ [.commitResult n (some r)] }) ∧
    (b.armed = false → step s = .next { s' with out := s.out ++ [.commitResult n none] })

/-- What a Builder expands to, whatever its calls: nothing if no call set a valid pin, and otherwise one BULKWRITE whose
pinsMask is the union of the pins set, whose direction and level bits are those of the last SET of each pin, zero elsewhere,
and whose target is the last CALLBACK's (43_handler_builder.md, section 2). -/
def Obligations.BuilderExpandsToOneBulkWrite : Prop :=
  ∀ ops : List BuilderOp,
    ((∀ p < 16, lastSet p ops = none) → expandBuild ops = none) ∧
    ((∃ p < 16, lastSet p ops ≠ none) →
      ∃ m d v : Word, expandBuild ops = some (.bulkWrite m d v (lastCallback ops)) ∧
        ∀ p < 16, m.getLsbD p = (lastSet p ops).isSome ∧
          d.getLsbD p = decide ((lastSet p ops).map Prod.fst = some .output) ∧
          v.getLsbD p = decide ((lastSet p ops).map Prod.snd = some .high))

/-! ## Simultaneous events and the reference environment -/

/-- In a clocked implementation the events of one cycle are taken in R245's order, none lost; `Notify` is among them if it is
due and no completion is; and so an edge and a command arriving together in `Idle`, with no event left from an earlier cycle,
give a service and `BUSY` (60_exceptions.md, section 4; that a Builder's calls rank with the commands is the model's choice, log
entry 14). -/
def Obligations.ClockedPriorityOrder : Prop :=
  (∀ batch : List Event, (serialise batch).Perm batch ∧
    (serialise batch).Pairwise (fun e f => priority e ≤ priority f)) ∧
  (∀ (arrived : List Event) (s : State), (.notify ∈ arrived → False) →
    (.notify ∈ cycleEvents arrived s ↔ s.state = .signalDone ∧ ∀ ok r, Event.busDone ok r ∉ arrived)) ∧
  (∀ (s : State) (i : Instr), s.state = .idle → s.input = [] → i.wellFormed = true →
    ∃ t : State, Sys2Proof.core.run 2 (clockCycle [.cmd (encode i), .irqEdge] s) = .next t ∧
      t.state = .readInputForServicing ∧ t.kind = .service ∧
      t.out = s.out ++ [
        .busReq { rw := .read, addr := s.devAddr, reg := s.cfg.regInput, len := 2#2, wdata := 0#16 },
        .resp { accepted := false, reason := .busy }])

/-- The reference environment: a read returns the register, `ISTAT` is zero after it; a write sets `OUT`, `CFG` or `IMASK` and
leaves `IN` and `ISTAT`; a request for one of the five pairs is answered with success, or, where a vector says so, with a
failure that leaves the device as it was (20_memory.md, section 5; 95_test_vectors.md, section 2.6). -/
def Obligations.ReferenceDeviceAccesses : Prop :=
  (∀ (d : RefDevice) (r q : RemoteReg) (v : Word),
    (memRead r d).1 = deviceValue d r ∧
    deviceValue (memRead r d).2 q = (if r = .intStat ∧ q = .intStat then 0x0000#16 else deviceValue d q) ∧
    deviceValue (memWrite r v d) q =
      (if q = r ∧ (r = .output ∨ r = .config ∨ r = .intMask) then v else deviceValue d q)) ∧
  (∀ (p : Config.Params) (d : RefDevice) (r : RemoteReg) (q : BusReq) (x : Word), idsDistinct p → q.reg = regId p r →
    (q.rw = .read → answer p none q d = some (.busDone true (deviceValue d r), (memRead r d).2)) ∧
    (q.rw = .write → answer p none q d = some (.busDone true 0x0000#16, memWrite r q.wdata d)) ∧
    answer p (some x) q d = some (.busDone false x, d))

/-- BULKWRITE in the reference environment, from `Idle` with nothing waiting: six steps, `CFG` and `OUT` merged, everything
else of the device unchanged, and the Engine in `Idle` again; and with its operation `k` (0 to 3) failing, `CFG` merged if its
write was completed, `OUT` unchanged, and `Idle` all the same (42_bulk.md section 1, 20_memory.md section 5, 95_test_vectors.md
section 2.6). The model's choices: the last step is the `Notify` taken with no event waiting (log entry 3), and the run is the
closed run of log entry 10. -/
def Obligations.BulkWriteInTheReferenceEnvironment : Prop :=
  ∀ (s : State) (dev : RefDevice) (m d v : Word) (target : Option Tag), idsDistinct s.cfg → s.state = .idle →
    s.irqPending = false → s.input = [.cmd (encode (.bulkWrite m d v target))] →
    (∃ t : State, closedRun 6 [] s dev = some (t, { dev with
        config := (dev.config &&& ~~~m) ||| (m &&& ~~~d)
        output := (dev.output &&& ~~~m) ||| (m &&& v) }) ∧
      t.state = .idle ∧ t.input = []) ∧
    (∀ (k : Nat) (x : Word), k < 4 →
      ∃ t : State, closedRun (k + 3) (List.replicate k promptOk ++ [{ wait := 0, failed := some x }]) s dev =
          some (t, { dev with config := if 2 ≤ k then (dev.config &&& ~~~m) ||| (m &&& ~~~d) else dev.config }) ∧
        t.state = .idle ∧ t.input = [] ∧ t.resStatus = .busFail)

/-- Two TOGGLEs of one pin in the reference environment restore the device (41_single_pin.md, section 3). The model's choices:
the last step of each run is the `Notify` taken with no event waiting (log entry 3), and the runs are the closed runs of log
entry 10. -/
def Obligations.TwoTogglesRestoreTheOutput : Prop :=
  ∀ (s : State) (dev : RefDevice) (pin : Word) (target : Option Tag), idsDistinct s.cfg → pin.toNat < 16 →
    s.state = .idle → s.irqPending = false → s.input = [.cmd (encode (.toggle pin target))] →
    ∃ t u : State, closedRun 4 [] s dev = some (t, { dev with output := dev.output ^^^ 1#16 <<< pin.toNat }) ∧
      t.state = .idle ∧
      closedRun 4 [] { t with input := [.cmd (encode (.toggle pin target))] }
        { dev with output := dev.output ^^^ 1#16 <<< pin.toNat } = some (u, dev) ∧ u.state = .idle
end

