-- ==== Sys2Proof/Laws/Decode.lean ====
section
/-! SUPPORT. The fields of a word put together (spec/30_encoding.md R91): reading a field of `packFields` gives that field
back. -/

namespace Sys2Proof

section
variable (op : BitVec 4) (zero : BitVec 3) (cbv : BitVec 1) (tag : Tag) (c b a : Word)

theorem opField_packFields : opField (packFields op zero cbv tag c b a) = op := by
  ext i hi
  simp only [opField, packFields, BitVec.getElem_extractLsb', BitVec.getLsbD_append]
  rw [← BitVec.getLsbD_eq_getElem]
  repeat' split
  all_goals first | omega | (congr 1; omega)

theorem zeroField_packFields : zeroField (packFields op zero cbv tag c b a) = zero := by
  ext i hi
  simp only [zeroField, packFields, BitVec.getElem_extractLsb', BitVec.getLsbD_append]
  rw [← BitVec.getLsbD_eq_getElem]
  repeat' split
  all_goals first | omega | (congr 1; omega)

theorem cbvField_packFields : cbvField (packFields op zero cbv tag c b a) = cbv := by
  ext i hi
  simp only [cbvField, packFields, BitVec.getElem_extractLsb', BitVec.getLsbD_append]
  rw [← BitVec.getLsbD_eq_getElem]
  repeat' split
  all_goals first | omega | (congr 1; omega)

theorem tagField_packFields : tagField (packFields op zero cbv tag c b a) = tag := by
  ext i hi
  simp only [tagField, packFields, BitVec.getElem_extractLsb', BitVec.getLsbD_append]
  rw [← BitVec.getLsbD_eq_getElem]
  repeat' split
  all_goals first | omega | (congr 1; omega)

theorem cField_packFields : cField (packFields op zero cbv tag c b a) = c := by
  ext i hi
  simp only [cField, packFields, BitVec.getElem_extractLsb', BitVec.getLsbD_append]
  rw [← BitVec.getLsbD_eq_getElem]
  repeat' split
  all_goals first | omega | (congr 1; omega)

theorem bField_packFields : bField (packFields op zero cbv tag c b a) = b := by
  ext i hi
  simp only [bField, packFields, BitVec.getElem_extractLsb', BitVec.getLsbD_append]
  rw [← BitVec.getLsbD_eq_getElem]
  repeat' split
  all_goals first | omega | (congr 1; omega)

theorem aField_packFields : aField (packFields op zero cbv tag c b a) = a := by
  ext i hi
  simp only [aField, packFields, BitVec.getElem_extractLsb', BitVec.getLsbD_append]
  rw [← BitVec.getLsbD_eq_getElem]
  repeat' split
  all_goals first | omega | (congr 1; omega)

end

/-- A completion target survives its two fields (R91, R99). -/
theorem targetOf_fields (t : Option Tag) : targetOf (cbvOf t) (tagOf t) = t := by
  cases t <;> simp [targetOf, cbvOf, tagOf]

/-- A direction survives its field (R94 (b), R99). -/
theorem directionOf_field (d : Direction) : directionOf (directionField d) = d := by
  cases d <;> rfl

/-- A level survives its field (R94 (c), R99). -/
theorem levelOf_field (l : Level) : levelOf (levelField l) = l := by
  cases l <;> rfl

end Sys2Proof
end

