-- ==== Sys2Proof/Laws/State.lean ====
section
/-! SUPPORT. For each named update of State, what it leaves in each field: one lemma per field, so that no proof unfolds a
record update. -/

namespace Sys2Proof.Machine

/-! Emitting changes `out` only. -/

section
variable (s : State) (o : Output)

@[simp] theorem State.emit_state : (s.emit o).state = s.state := rfl
@[simp] theorem State.emit_kind : (s.emit o).kind = s.kind := rfl
@[simp] theorem State.emit_pins : (s.emit o).pins = s.pins := rfl
@[simp] theorem State.emit_pa : (s.emit o).pa = s.pa := rfl
@[simp] theorem State.emit_pb : (s.emit o).pb = s.pb := rfl
@[simp] theorem State.emit_cbValid : (s.emit o).cbValid = s.cbValid := rfl
@[simp] theorem State.emit_cbTag : (s.emit o).cbTag = s.cbTag := rfl
@[simp] theorem State.emit_resStatus : (s.emit o).resStatus = s.resStatus := rfl
@[simp] theorem State.emit_resValue : (s.emit o).resValue = s.resValue := rfl
@[simp] theorem State.emit_inSnapshot : (s.emit o).inSnapshot = s.inSnapshot := rfl
@[simp] theorem State.emit_ihValid : (s.emit o).ihValid = s.ihValid := rfl
@[simp] theorem State.emit_ihTag : (s.emit o).ihTag = s.ihTag := rfl
@[simp] theorem State.emit_irqPending : (s.emit o).irqPending = s.irqPending := rfl
@[simp] theorem State.emit_devAddr : (s.emit o).devAddr = s.devAddr := rfl
@[simp] theorem State.emit_cfg : (s.emit o).cfg = s.cfg := rfl
@[simp] theorem State.emit_builders : (s.emit o).builders = s.builders := rfl
@[simp] theorem State.emit_input : (s.emit o).input = s.input := rfl
@[simp] theorem State.emit_out : (s.emit o).out = s.out ++ [o] := rfl
@[simp] theorem State.emit_resets : (s.emit o).resets = s.resets := rfl

end

/-! `state <- S` changes `state` only. -/

section
variable (s : State) (e : EngineState)

@[simp] theorem State.goto_state : (s.goto e).state = e := rfl
@[simp] theorem State.goto_kind : (s.goto e).kind = s.kind := rfl
@[simp] theorem State.goto_pins : (s.goto e).pins = s.pins := rfl
@[simp] theorem State.goto_pa : (s.goto e).pa = s.pa := rfl
@[simp] theorem State.goto_pb : (s.goto e).pb = s.pb := rfl
@[simp] theorem State.goto_cbValid : (s.goto e).cbValid = s.cbValid := rfl
@[simp] theorem State.goto_cbTag : (s.goto e).cbTag = s.cbTag := rfl
@[simp] theorem State.goto_resStatus : (s.goto e).resStatus = s.resStatus := rfl
@[simp] theorem State.goto_resValue : (s.goto e).resValue = s.resValue := rfl
@[simp] theorem State.goto_inSnapshot : (s.goto e).inSnapshot = s.inSnapshot := rfl
@[simp] theorem State.goto_ihValid : (s.goto e).ihValid = s.ihValid := rfl
@[simp] theorem State.goto_ihTag : (s.goto e).ihTag = s.ihTag := rfl
@[simp] theorem State.goto_irqPending : (s.goto e).irqPending = s.irqPending := rfl
@[simp] theorem State.goto_devAddr : (s.goto e).devAddr = s.devAddr := rfl
@[simp] theorem State.goto_cfg : (s.goto e).cfg = s.cfg := rfl
@[simp] theorem State.goto_builders : (s.goto e).builders = s.builders := rfl
@[simp] theorem State.goto_input : (s.goto e).input = s.input := rfl
@[simp] theorem State.goto_out : (s.goto e).out = s.out := rfl
@[simp] theorem State.goto_resets : (s.goto e).resets = s.resets := rfl

end

/-! Staging a result changes the result registers and `state` (R26). -/

section
variable (c : Config.Status) (v : Word) (s : State)

@[simp] theorem stage_state : (stage c v s).state = .signalDone := rfl
@[simp] theorem stage_kind : (stage c v s).kind = s.kind := rfl
@[simp] theorem stage_pins : (stage c v s).pins = s.pins := rfl
@[simp] theorem stage_pa : (stage c v s).pa = s.pa := rfl
@[simp] theorem stage_pb : (stage c v s).pb = s.pb := rfl
@[simp] theorem stage_cbValid : (stage c v s).cbValid = s.cbValid := rfl
@[simp] theorem stage_cbTag : (stage c v s).cbTag = s.cbTag := rfl
@[simp] theorem stage_resStatus : (stage c v s).resStatus = c := rfl
@[simp] theorem stage_resValue : (stage c v s).resValue = v := rfl
@[simp] theorem stage_inSnapshot : (stage c v s).inSnapshot = s.inSnapshot := rfl
@[simp] theorem stage_ihValid : (stage c v s).ihValid = s.ihValid := rfl
@[simp] theorem stage_ihTag : (stage c v s).ihTag = s.ihTag := rfl
@[simp] theorem stage_irqPending : (stage c v s).irqPending = s.irqPending := rfl
@[simp] theorem stage_devAddr : (stage c v s).devAddr = s.devAddr := rfl
@[simp] theorem stage_cfg : (stage c v s).cfg = s.cfg := rfl
@[simp] theorem stage_builders : (stage c v s).builders = s.builders := rfl
@[simp] theorem stage_input : (stage c v s).input = s.input := rfl
@[simp] theorem stage_out : (stage c v s).out = s.out := rfl
@[simp] theorem stage_resets : (stage c v s).resets = s.resets := rfl

end

/-! Issuing a read emits one request (R67). -/

section
variable (r : RemoteReg) (s : State)

@[simp] theorem issueRead_state : (issueRead r s).state = s.state := rfl
@[simp] theorem issueRead_kind : (issueRead r s).kind = s.kind := rfl
@[simp] theorem issueRead_pins : (issueRead r s).pins = s.pins := rfl
@[simp] theorem issueRead_pa : (issueRead r s).pa = s.pa := rfl
@[simp] theorem issueRead_pb : (issueRead r s).pb = s.pb := rfl
@[simp] theorem issueRead_cbValid : (issueRead r s).cbValid = s.cbValid := rfl
@[simp] theorem issueRead_cbTag : (issueRead r s).cbTag = s.cbTag := rfl
@[simp] theorem issueRead_resStatus : (issueRead r s).resStatus = s.resStatus := rfl
@[simp] theorem issueRead_resValue : (issueRead r s).resValue = s.resValue := rfl
@[simp] theorem issueRead_inSnapshot : (issueRead r s).inSnapshot = s.inSnapshot := rfl
@[simp] theorem issueRead_ihValid : (issueRead r s).ihValid = s.ihValid := rfl
@[simp] theorem issueRead_ihTag : (issueRead r s).ihTag = s.ihTag := rfl
@[simp] theorem issueRead_irqPending : (issueRead r s).irqPending = s.irqPending := rfl
@[simp] theorem issueRead_devAddr : (issueRead r s).devAddr = s.devAddr := rfl
@[simp] theorem issueRead_cfg : (issueRead r s).cfg = s.cfg := rfl
@[simp] theorem issueRead_builders : (issueRead r s).builders = s.builders := rfl
@[simp] theorem issueRead_input : (issueRead r s).input = s.input := rfl
@[simp] theorem issueRead_out : (issueRead r s).out = s.out ++ [.busReq (readReq s r)] := rfl
@[simp] theorem issueRead_resets : (issueRead r s).resets = s.resets := rfl

end

/-! Issuing a write emits one request (R67). -/

section
variable (r : RemoteReg) (v : Word) (s : State)

@[simp] theorem issueWrite_state : (issueWrite r v s).state = s.state := rfl
@[simp] theorem issueWrite_kind : (issueWrite r v s).kind = s.kind := rfl
@[simp] theorem issueWrite_pins : (issueWrite r v s).pins = s.pins := rfl
@[simp] theorem issueWrite_pa : (issueWrite r v s).pa = s.pa := rfl
@[simp] theorem issueWrite_pb : (issueWrite r v s).pb = s.pb := rfl
@[simp] theorem issueWrite_cbValid : (issueWrite r v s).cbValid = s.cbValid := rfl
@[simp] theorem issueWrite_cbTag : (issueWrite r v s).cbTag = s.cbTag := rfl
@[simp] theorem issueWrite_resStatus : (issueWrite r v s).resStatus = s.resStatus := rfl
@[simp] theorem issueWrite_resValue : (issueWrite r v s).resValue = s.resValue := rfl
@[simp] theorem issueWrite_inSnapshot : (issueWrite r v s).inSnapshot = s.inSnapshot := rfl
@[simp] theorem issueWrite_ihValid : (issueWrite r v s).ihValid = s.ihValid := rfl
@[simp] theorem issueWrite_ihTag : (issueWrite r v s).ihTag = s.ihTag := rfl
@[simp] theorem issueWrite_irqPending : (issueWrite r v s).irqPending = s.irqPending := rfl
@[simp] theorem issueWrite_devAddr : (issueWrite r v s).devAddr = s.devAddr := rfl
@[simp] theorem issueWrite_cfg : (issueWrite r v s).cfg = s.cfg := rfl
@[simp] theorem issueWrite_builders : (issueWrite r v s).builders = s.builders := rfl
@[simp] theorem issueWrite_input : (issueWrite r v s).input = s.input := rfl
@[simp] theorem issueWrite_out : (issueWrite r v s).out = s.out ++ [.busReq (writeReq s r v)] := rfl
@[simp] theorem issueWrite_resets : (issueWrite r v s).resets = s.resets := rfl

end

/-! Accepting a sequence command (R123). -/

section
variable (k : Kind) (g : Option Tag) (r : RemoteReg) (e : EngineState) (s : State)

@[simp] theorem startSequence_state : (startSequence k g r e s).state = e := rfl
@[simp] theorem startSequence_kind : (startSequence k g r e s).kind = k := rfl
@[simp] theorem startSequence_pins : (startSequence k g r e s).pins = s.pins := rfl
@[simp] theorem startSequence_pa : (startSequence k g r e s).pa = s.pa := rfl
@[simp] theorem startSequence_pb : (startSequence k g r e s).pb = s.pb := rfl
@[simp] theorem startSequence_cbValid : (startSequence k g r e s).cbValid = g.isSome := rfl
@[simp] theorem startSequence_cbTag : (startSequence k g r e s).cbTag = g.getD s.cbTag := rfl
@[simp] theorem startSequence_resStatus : (startSequence k g r e s).resStatus = s.resStatus := rfl
@[simp] theorem startSequence_resValue : (startSequence k g r e s).resValue = s.resValue := rfl
@[simp] theorem startSequence_inSnapshot : (startSequence k g r e s).inSnapshot = s.inSnapshot := rfl
@[simp] theorem startSequence_ihValid : (startSequence k g r e s).ihValid = s.ihValid := rfl
@[simp] theorem startSequence_ihTag : (startSequence k g r e s).ihTag = s.ihTag := rfl
@[simp] theorem startSequence_irqPending : (startSequence k g r e s).irqPending = s.irqPending := rfl
@[simp] theorem startSequence_devAddr : (startSequence k g r e s).devAddr = s.devAddr := rfl
@[simp] theorem startSequence_cfg : (startSequence k g r e s).cfg = s.cfg := rfl
@[simp] theorem startSequence_builders : (startSequence k g r e s).builders = s.builders := rfl
@[simp] theorem startSequence_input : (startSequence k g r e s).input = s.input := rfl
@[simp] theorem startSequence_out : (startSequence k g r e s).out = s.out ++ [.busReq (readReq s r)] := rfl
@[simp] theorem startSequence_resets : (startSequence k g r e s).resets = s.resets := rfl

end

/-! ServiceStart (R232). -/

section
variable (s : State)

@[simp] theorem serviceStart_state : (serviceStart s).state = .readInputForServicing := rfl
@[simp] theorem serviceStart_kind : (serviceStart s).kind = .service := rfl
@[simp] theorem serviceStart_pins : (serviceStart s).pins = s.pins := rfl
@[simp] theorem serviceStart_pa : (serviceStart s).pa = s.pa := rfl
@[simp] theorem serviceStart_pb : (serviceStart s).pb = s.pb := rfl
@[simp] theorem serviceStart_cbValid : (serviceStart s).cbValid = false := rfl
@[simp] theorem serviceStart_cbTag : (serviceStart s).cbTag = s.cbTag := rfl
@[simp] theorem serviceStart_resStatus : (serviceStart s).resStatus = s.resStatus := rfl
@[simp] theorem serviceStart_resValue : (serviceStart s).resValue = s.resValue := rfl
@[simp] theorem serviceStart_inSnapshot : (serviceStart s).inSnapshot = s.inSnapshot := rfl
@[simp] theorem serviceStart_ihValid : (serviceStart s).ihValid = s.ihValid := rfl
@[simp] theorem serviceStart_ihTag : (serviceStart s).ihTag = s.ihTag := rfl
@[simp] theorem serviceStart_irqPending : (serviceStart s).irqPending = false := rfl
@[simp] theorem serviceStart_devAddr : (serviceStart s).devAddr = s.devAddr := rfl
@[simp] theorem serviceStart_cfg : (serviceStart s).cfg = s.cfg := rfl
@[simp] theorem serviceStart_builders : (serviceStart s).builders = s.builders := rfl
@[simp] theorem serviceStart_input : (serviceStart s).input = s.input := rfl
@[simp] theorem serviceStart_out : (serviceStart s).out = s.out ++ [.busReq (readReq s .input)] := rfl
@[simp] theorem serviceStart_resets : (serviceStart s).resets = s.resets := rfl

end

/-! Delivering the result (R126). -/

section
variable (s : State)

@[simp] theorem deliver_state : (deliver s).state = .idle := rfl
@[simp] theorem deliver_kind : (deliver s).kind = .none := rfl
@[simp] theorem deliver_pins : (deliver s).pins = s.pins := rfl
@[simp] theorem deliver_pa : (deliver s).pa = s.pa := rfl
@[simp] theorem deliver_pb : (deliver s).pb = s.pb := rfl
@[simp] theorem deliver_cbValid : (deliver s).cbValid = false := rfl
@[simp] theorem deliver_cbTag : (deliver s).cbTag = s.cbTag := rfl
@[simp] theorem deliver_resStatus : (deliver s).resStatus = s.resStatus := rfl
@[simp] theorem deliver_resValue : (deliver s).resValue = s.resValue := rfl
@[simp] theorem deliver_inSnapshot : (deliver s).inSnapshot = s.inSnapshot := rfl
@[simp] theorem deliver_ihValid : (deliver s).ihValid = s.ihValid := rfl
@[simp] theorem deliver_ihTag : (deliver s).ihTag = s.ihTag := rfl
@[simp] theorem deliver_irqPending : (deliver s).irqPending = s.irqPending := rfl
@[simp] theorem deliver_devAddr : (deliver s).devAddr = s.devAddr := rfl
@[simp] theorem deliver_cfg : (deliver s).cfg = s.cfg := rfl
@[simp] theorem deliver_builders : (deliver s).builders = s.builders := rfl
@[simp] theorem deliver_input : (deliver s).input = s.input := rfl
@[simp] theorem deliver_out : (deliver s).out = s.out ++ (notification s).toList := rfl
@[simp] theorem deliver_resets : (deliver s).resets = s.resets := rfl

end

end Sys2Proof.Machine
end

