-- ==== Sys2Proof/Laws/Ops.lean ====
section
/-! SUPPORT. What each shared operation can do, said once: proofs about a step cite these and do not unfold the operation. -/

namespace Sys2Proof.Machine

/-- The pin check passes exactly below 16 (R94 (a)). -/
theorem pinInRange_iff (pin : Word) : pinInRange pin = true ↔ pin.toNat < 16 := by simp [pinInRange]

/-- The one-hot mask of a valid pin: the four low bits are the whole number (R94 (a)). -/
theorem pinMask_of_lt {pin : Word} (h : pin.toNat < 16) : pinMask pin = 1#16 <<< pin.toNat := by
  have : (pin.extractLsb' 0 4).toNat = pin.toNat := by
    simp only [BitVec.extractLsb'_toNat, Nat.shiftRight_zero]
    exact Nat.mod_eq_of_lt h
  simp [pinMask, oneHot, this]

/-- A command with an invalid pin: only the response (R222). -/
theorem command_invalidPin (f : State → State) (s : State) :
    command false f s = s.emit (.resp (rejected .invalidPin)) := rfl

/-- A legal command while busy: only the response (R221). -/
theorem command_busy (f : State → State) {s : State} (h : s.state ≠ .idle) :
    command true f s = s.emit (.resp (rejected .busy)) := by
  simp [command, verdict, busy, h, rejected, reject]

/-- A legal command in `Idle`: accepted (R122 step 4). -/
theorem command_idle (f : State → State) {s : State} (h : s.state = .idle) :
    command true f s = f (s.emit (.resp accepted)) := by
  simp [command, verdict, busy, h, accepted]

/-- Everything a decoded command can do (R122): one of the two rejections, or its acceptance step. -/
theorem command_cases (pinOk : Bool) (f : State → State) (s : State) :
    (pinOk = false ∧ command pinOk f s = s.emit (.resp (rejected .invalidPin))) ∨
    (pinOk = true ∧ s.state ≠ .idle ∧ command pinOk f s = s.emit (.resp (rejected .busy))) ∨
    (pinOk = true ∧ s.state = .idle ∧ command pinOk f s = f (s.emit (.resp accepted))) := by
  cases pinOk with
  | false => exact .inl ⟨rfl, rfl⟩
  | true =>
    by_cases h : s.state = .idle
    · exact .inr (.inr ⟨rfl, h, command_idle f h⟩)
    · exact .inr (.inl ⟨rfl, h, command_busy f h⟩)

/-- Everything `Notify` can do (R126): nothing where it is not enabled, else deliver, and then perhaps start a service. -/
theorem notifyStep_cases (s : State) :
    (s.state ≠ .signalDone ∧ notifyStep s = s) ∨
    (s.state = .signalDone ∧ s.irqPending = true ∧ s.cfg.policy = .immediate ∧
      notifyStep s = serviceStart (deliver s)) ∨
    (s.state = .signalDone ∧ ¬(s.irqPending = true ∧ s.cfg.policy = .immediate) ∧ notifyStep s = deliver s) := by
  by_cases h : s.state = .signalDone
  · by_cases g : s.irqPending = true ∧ s.cfg.policy = .immediate
    · exact .inr (.inl ⟨h, g.1, g.2, by simp [notifyStep, notifyDue, h, g.1, g.2]⟩)
    · exact .inr (.inr ⟨h, g, by simp [notifyStep, notifyDue, h, g]⟩)
  · exact .inl ⟨h, by simp [notifyStep, notifyDue, h]⟩

/-- Everything an edge can do (R230). -/
theorem irqEdgeStep_cases (s : State) :
    (s.state ≠ .idle ∧ irqEdgeStep s = { s with irqPending := true }) ∨
    (s.state = .idle ∧ irqEdgeStep s = serviceStart s) := by
  by_cases h : s.state = .idle
  · exact .inr ⟨h, by simp [irqEdgeStep, busy, h]; rfl⟩
  · exact .inl ⟨h, by simp [irqEdgeStep, busy, h]⟩

/-- Everything a tick of the retry timer can do (R239). -/
theorem pollTickStep_cases (s : State) :
    (s.cfg.policy = .polled ∧ s.state = .idle ∧ s.irqPending = true ∧ pollTickStep s = serviceStart s) ∨
    (¬(s.cfg.policy = .polled ∧ s.state = .idle ∧ s.irqPending = true) ∧ pollTickStep s = s) := by
  by_cases h : s.cfg.policy = .polled ∧ s.state = .idle ∧ s.irqPending = true
  · exact .inl ⟨h.1, h.2.1, h.2.2, by simp [pollTickStep, busy, h]⟩
  · refine .inr ⟨h, if_neg fun g => h ?_⟩
    simpa [busy, and_assoc] using g

/-- Everything a successful completion can do (R151 to R184, R235, R236): stage a result, or issue the next operation and
enter its state; `in_snapshot` is written in `ReadInputForServicing` only. -/
theorem complete_cases (rdata : Word) (s : State) (h : busOutstanding s.state = true) :
    ∃ n : Word, (s.state ≠ .readInputForServicing → n = s.inSnapshot) ∧
      ((∃ v, complete rdata s = stage .ok v { s with inSnapshot := n } ∧
          (v ≠ 0#16 → s.state = .readInputForServicing ∧ s.kind ≠ .service ∨ s.state = .readInterruptStatus)) ∨
       (∃ r e, complete rdata s = (issueRead r { s with inSnapshot := n }).goto e ∧ outstanding e = some (.read, r) ∧
          e ≠ s.state) ∨
       (∃ r e v, complete rdata s = (issueWrite r v { s with inSnapshot := n }).goto e ∧ outstanding e = some (.write, r) ∧
          e ≠ s.state)) := by
  obtain ⟨st, k⟩ := s
  cases st <;> simp [busOutstanding, outstanding] at h <;>
    simp only [complete, completeReadDirection, completeWriteDirection, completeReadOutputForWrite,
      completeWriteOutputForWrite, completeReadOutputForToggle, completeWriteOutputForToggle,
      completeReadOutputForBulkSet, completeWriteOutputForBulkSet, completeReadDirectionForBulkSet,
      completeWriteDirectionForBulkSet, completeReadInterruptDirection, completeWriteInterruptDirection,
      completeReadInterruptMask, completeWriteInterruptMask, completeReadInputForServicing, completeReadInterruptStatus,
      writeIfChanged]
  case readInputForServicing =>
    refine ⟨rdata, by simp, ?_⟩
    split
    · exact .inr (.inl ⟨.intStat, _, rfl, rfl, by simp⟩)
    · exact .inl ⟨rdata, rfl, fun _ => .inl ⟨by simp, by assumption⟩⟩
  case readInterruptStatus => exact ⟨_, fun _ => rfl, .inl ⟨rdata, rfl, fun _ => .inr (by simp)⟩⟩
  case readDirection | readOutputForWrite =>
    refine ⟨_, fun _ => rfl, ?_⟩
    split
    · exact .inl ⟨0#16, rfl, by simp⟩
    · exact .inr (.inr ⟨_, _, _, rfl, rfl, by simp⟩)
  all_goals
    refine ⟨_, fun _ => rfl, ?_⟩
    first
    | exact .inl ⟨0#16, rfl, by simp⟩
    | exact .inr (.inl ⟨_, _, rfl, rfl, by simp⟩)
    | exact .inr (.inr ⟨_, _, _, rfl, rfl, by simp⟩)

/-- Everything a bus completion can do (R124). -/
theorem busDoneStep_cases (ok : Bool) (rdata : Word) (s : State) :
    (busOutstanding s.state = false ∧ busDoneStep ok rdata s = s) ∨
    (busOutstanding s.state = true ∧ ok = false ∧ busDoneStep ok rdata s = busFailure s) ∨
    (busOutstanding s.state = true ∧ ok = true ∧ busDoneStep ok rdata s = complete rdata s) := by
  cases h : busOutstanding s.state <;> cases ok <;> simp [busDoneStep, h]

end Sys2Proof.Machine
end

