-- ==== Sys2Proof/Laws/PerInstr.lean ====
section
/-! SUPPORT. What holds of every command as syntax, one lemma per constructor. -/

namespace Sys2Proof.Laws.EncodedHeader

/-- The word the encoder writes has the command's opcode in `op` and zeros in the reserved bits (spec/30_encoding.md R91,
R92). -/
def Statement (i : Instr) : Prop := opField (encode i) = i.opcode ∧ zeroField (encode i) = 0#3

theorem mode (pin : Word) (dir : Direction) (target : Option Tag) : Statement (.mode pin dir target) := by
  simp [Statement, encode, opField_packFields, zeroField_packFields]

theorem write (pin : Word) (level : Level) (target : Option Tag) : Statement (.write pin level target) := by
  simp [Statement, encode, opField_packFields, zeroField_packFields]

theorem toggle (pin : Word) (target : Option Tag) : Statement (.toggle pin target) := by
  simp [Statement, encode, opField_packFields, zeroField_packFields]

theorem bulkWrite (m d v : Word) (target : Option Tag) : Statement (.bulkWrite m d v target) := by
  simp [Statement, encode, opField_packFields, zeroField_packFields]

theorem bulkToggle (m : Word) (target : Option Tag) : Statement (.bulkToggle m target) := by
  simp [Statement, encode, opField_packFields, zeroField_packFields]

theorem bulkSetInt (m v : Word) (target : Option Tag) : Statement (.bulkSetInt m v target) := by
  simp [Statement, encode, opField_packFields, zeroField_packFields]

theorem bulkRead (target : Option Tag) : Statement (.bulkRead target) := by
  simp [Statement, encode, opField_packFields, zeroField_packFields]

theorem setIH (h : Tag) : Statement (.setIH h) := by
  simp [Statement, encode, opField_packFields, zeroField_packFields]

theorem clrIH : Statement .clrIH := by
  simp [Statement, encode, opField_packFields, zeroField_packFields]

end Sys2Proof.Laws.EncodedHeader
end

