-- ==== Sys2Proof/Laws/Step.lean ====
section
/-! SUPPORT. The step by its event. -/

namespace Sys2Proof.Machine

/-- With no event left, the step is `Notify`, which does nothing where it is not due. -/
theorem step_nil {s : State} (h : s.input = []) : step s = .next (notifyStep s) := by
  simp [step, nextStep, h]

/-- The step processes the event at the head. -/
theorem step_cons {s : State} {e : Event} {rest : List Event} (h : s.input = e :: rest) :
    step s = handle e { s with input := rest } := by
  simp [step, nextStep, h]

/-- A decodable command word runs its command. -/
theorem cmdStep_ok {w : Command} {i : Instr} (h : decode w = .ok i) (s : State) : cmdStep w s = exec i s := by
  simp [cmdStep, h]

/-- A word that selects no row is rejected `INVALID_CMD` (R95). -/
theorem cmdStep_error {w : Command} {e : DecodeError} (h : decode w = .error e) (s : State) :
    cmdStep w s = .next (reject .invalidCmd s) := by
  simp [cmdStep, h]

/-- Every command answers a next state: no command stops the machine. -/
theorem exec_next (i : Instr) (s : State) : ∃ t, exec i s = .next t := by
  cases i <;> exact ⟨_, rfl⟩

/-- Every command is the checks of R122 and then an acceptance step that keeps what was emitted and responds no more. -/
theorem exec_is_command (i : Instr) (s : State) :
    ∃ f : State → State, exec i s = .next (command i.wellFormed f s) ∧
      ∀ u, ∃ o, (f u).out = u.out ++ o ∧ ∀ r, Output.resp r ∉ o := by
  cases i <;> refine ⟨_, rfl, fun u => ?_⟩
  case setIH => exact ⟨[], by simp⟩
  case clrIH => exact ⟨[], by simp⟩
  all_goals exact ⟨_, rfl, by simp⟩

/-- A run of no step. -/
theorem run_zero (s : State) : Sys2Proof.core.run 0 s = .next s := rfl

/-- A run whose first step answers `t` goes on from `t`. -/
theorem run_succ {s t : State} (h : step s = .next t) (k : Nat) :
    Sys2Proof.core.run (k + 1) s = Sys2Proof.core.run k t := by
  simp only [Host.Core.run, show Sys2Proof.core.step s = .next t from h]

/-- A word placed by `withFetchWord` is what the next step decodes. -/
theorem step_withFetchWord (s : State) (nbits w : Nat) :
    step (s.withFetchWord nbits w) = cmdStep (BitVec.ofNat 64 (w % 2 ^ nbits)) s := rfl

end Sys2Proof.Machine
end

