-- ==== Sys2Proof/Tests/Slice0.lean ====
section
/-! SUPPORT. Tests and witnesses. The expected values are those of spec/95_test_vectors.md (its numbers M1, W1, ... stand in the
docstrings) or are computed by hand from the rule named; the words are written out from spec/30_encoding.md R91, R92. A theorem
`witness_X` shows concrete states and operands that meet the hypotheses of `Obligations.X`, clause by clause. -/

namespace Sys2Proof.Tests

open Sys2Proof Sys2Proof.Machine

/-! ## Concrete machines -/

/-- Parameters of the tests: five pairs of ids that do not overlap. -/
def params (policy : Config.StartPolicy) : Config.Params where
  devAddr0 := 0x21#7
  devAddr1 := 0x22#7
  addrSel := false
  regInput := 0x00#8
  regOutput := 0x04#8
  regConfig := 0x0C#8
  regIntMask := 0x4A#8
  regIntStat := 0x4C#8
  policy := policy
  retryDelay := 0

/-- A machine in a given state, with a given pending kind and events to come; the rest as `State.reset`. -/
def unit (e : EngineState) (k : Kind) (evs : List Event) : State :=
  { State.reset with cfg := params .immediate, devAddr := 0x21#7, state := e, kind := k, input := evs }

/-- The same under the POLLED policy. -/
def polled (e : EngineState) (k : Kind) (evs : List Event) : State :=
  { unit e k evs with cfg := params .polled }

/-- An idle machine with no event to come. -/
def idle : State := unit .idle .none []

/-- A part of the next state; none if there is no next state. -/
def after {α : Type} (f : State → α) : Host.Outcome State Fault Refusal → Option α
  | .next t => some (f t)
  | .fault _ => none
  | .refused _ => none

/-- The state and the outputs. -/
def stateAndOut (t : State) : EngineState × List Output := (t.state, t.out)

/-- `Resp{1, NONE}`. -/
def yes : Output := .resp { accepted := true, reason := .none }
/-- `Resp{0, reason}`. -/
def no (r : Reason) : Output := .resp { accepted := false, reason := r }
/-- A read of the register pair `id`. -/
def rd (id : RegId) : Output := .busReq { rw := .read, addr := 0x21#7, reg := id, len := 2#2, wdata := 0#16 }
/-- A write of the register pair `id`. -/
def wr (id : RegId) (v : Word) : Output := .busReq { rw := .write, addr := 0x21#7, reg := id, len := 2#2, wdata := v }

/-! ## Well-formed commands: one ill-formed term per check (R94 (a)) -/

theorem test_wf_mode_pin16 : Instr.wellFormed (.mode 16#16 .input (some 1#8)) = false := by decide
theorem test_wf_write_pin16 : Instr.wellFormed (.write 16#16 .high (some 2#8)) = false := by decide
theorem test_wf_toggle_pinFFFF : Instr.wellFormed (.toggle 0xFFFF#16 none) = false := by decide
theorem test_wf_pin15 : Instr.wellFormed (.mode 15#16 .output none) = true := by decide
theorem test_wf_masks : Instr.wellFormed (.bulkWrite 0xFFFF#16 0xFFFF#16 0xFFFF#16 none) = true := by decide

/-! ## Decoding: words of 95_test_vectors.md section 2.1 -/

theorem test_decode_mode_in : decode 0x1101000000000003#64 = .ok (.mode 3#16 .input (some 1#8)) := by decide
theorem test_decode_mode_bFFFE : decode 0x11010000FFFE0003#64 = .ok (.mode 3#16 .input (some 1#8)) := by decide
theorem test_decode_mode_noTarget : decode 0x100000000001000F#64 = .ok (.mode 15#16 .output none) := by decide
theorem test_decode_mode_pin16 : decode 0x1101000000000010#64 = .ok (.mode 16#16 .input (some 1#8)) := by decide
theorem test_decode_write_hi : decode 0x2102000000010005#64 = .ok (.write 5#16 .high (some 2#8)) := by decide
theorem test_decode_write_lo : decode 0x2102000000000005#64 = .ok (.write 5#16 .low (some 2#8)) := by decide
theorem test_decode_toggle : decode 0x310300000000000F#64 = .ok (.toggle 15#16 (some 3#8)) := by decide
theorem test_decode_bulkWrite :
    decode 0x4104555500FFFFFF#64 = .ok (.bulkWrite 0xFFFF#16 0x00FF#16 0x5555#16 (some 4#8)) := by decide
theorem test_decode_bulkToggle : decode 0x5105000000008001#64 = .ok (.bulkToggle 0x8001#16 (some 5#8)) := by decide
theorem test_decode_bulkSetInt :
    decode 0x61060000000C000F#64 = .ok (.bulkSetInt 0x000F#16 0x000C#16 (some 6#8)) := by decide
theorem test_decode_bulkRead : decode 0x7107000000000000#64 = .ok (.bulkRead (some 7#8)) := by decide
theorem test_decode_setIH : decode 0x80A5000000000000#64 = .ok (.setIH 0xA5#8) := by decide
theorem test_decode_clrIH : decode 0x9000000000000000#64 = .ok .clrIH := by decide
theorem test_decode_op0 : decode 0x0000000000000000#64 = .error (.reservedOpcode 0x0#4) := by decide
theorem test_decode_opA : decode 0xA000000000000000#64 = .error (.reservedOpcode 0xA#4) := by decide
theorem test_decode_opF : decode 0xF000000000000000#64 = .error (.reservedOpcode 0xF#4) := by decide
theorem test_decode_bit57 : decode 0x1200000000000003#64 = .error (.reservedBits 1#3) := by decide

/-- The encoder writes the words of the same table, every row with a command it can name. -/
theorem test_encode_words :
    encode (.mode 3#16 .output (some 1#8)) = 0x1101000000010003#64 ∧
    encode (.write 9#16 .high (some 8#8)) = 0x2108000000010009#64 ∧
    encode (.toggle 32#16 (some 3#8)) = 0x3103000000000020#64 ∧
    encode (.bulkWrite 0x00F0#16 0x0030#16 0x0050#16 (some 4#8)) = 0x41040050003000F0#64 ∧
    encode (.bulkToggle 0xFFFF#16 (some 5#8)) = 0x510500000000FFFF#64 ∧
    encode (.bulkSetInt 0x0005#16 0x0000#16 (some 6#8)) = 0x6106000000000005#64 ∧
    encode (.bulkRead none) = 0x7000000000000000#64 ∧
    encode (.setIH 0xA5#8) = 0x80A5000000000000#64 ∧
    encode .clrIH = 0x9000000000000000#64 := by decide

/-- R91's formula on the fields of BULKWRITE 0x0102, 0x0102, 0x0100 @9. -/
theorem test_formula : formulaWord 0x4#4 0#3 1#1 9#8 0x0100#16 0x0102#16 0x0102#16 = 0x4109010001020102#64 := by decide

/-- A row's word as the host numbers it. -/
theorem test_tableWord : decodeTableWord 64 0x80A5000000000000 = some (.setIH 0xA5#8) := by decide

/-- The assembler text of R99. -/
theorem test_asm : Instr.asm (.write 5#16 .high (some 2#8)) = "WRITE 5, HI @2" := by decide

/-! ## The merge function: 95_test_vectors.md section 2.2 -/

theorem test_merge :
    merge 0x0000#16 0x0008#16 0x0008#16 = 0x0008#16 ∧ merge 0xFFFF#16 0x0008#16 0x0000#16 = 0xFFF7#16 ∧
    merge 0x1234#16 0xFFFF#16 0xFF00#16 = 0xFF00#16 ∧ merge 0xFFFF#16 0x00F0#16 0xFFCF#16 = 0xFFCF#16 ∧
    merge 0xFFFF#16 0x000F#16 0x000C#16 = 0xFFFC#16 ∧ merge 0xABCD#16 0x0F0F#16 0x5555#16 = 0xA5C5#16 := by decide

/-! ## The commands: acceptance (sections 2.3 to 2.8) and one completion each -/

/-- M1 and M3: the pending registers after acceptance. -/
theorem test_mode_accept :
    after (fun t => (t.state, t.pins, t.pa, t.cbTag, t.out)) (exec (.mode 3#16 .input (some 1#8)) idle) =
      some (.readDirection, 0x0008#16, 0x0008#16, 1#8, [yes, rd 0x0C#8]) ∧
    after (fun t => (t.pins, t.pa)) (exec (.mode 3#16 .output (some 1#8)) idle) = some (0x0008#16, 0x0000#16) := by decide

/-- M3 and M2: one write of `0xFFF7`; no write when the bit is already as requested. -/
theorem test_mode_complete :
    after stateAndOut (step { unit .readDirection .mode [.busDone true 0xFFFF#16] with pins := 8#16, pa := 0#16 }) =
      some (.writeDirection, [wr 0x0C#8 0xFFF7#16]) ∧
    after stateAndOut (step { unit .readDirection .mode [.busDone true 0x0008#16] with pins := 8#16, pa := 8#16 }) =
      some (.signalDone, []) := by decide

/-- W1: high is a set bit, with no inversion. -/
theorem test_write_accept :
    after (fun t => (t.state, t.pins, t.pa, t.out)) (exec (.write 5#16 .high (some 2#8)) idle) =
      some (.readOutputForWrite, 0x0020#16, 0x0020#16, [yes, rd 0x04#8]) := by decide

/-- W4 and W2: the top pin; no write. -/
theorem test_write_complete :
    after stateAndOut
      (step { unit .readOutputForWrite .write [.busDone true 0x7FFF#16] with pins := 0x8000#16, pa := 0x8000#16 }) =
      some (.writeOutputForWrite, [wr 0x04#8 0xFFFF#16]) ∧
    after stateAndOut
      (step { unit .readOutputForWrite .write [.busDone true 0x0003#16] with pins := 0x0020#16, pa := 0x0000#16 }) =
      some (.signalDone, []) := by decide

/-- T2: the top pin; `pa` keeps its value. -/
theorem test_toggle_accept :
    after (fun t => (t.state, t.pins, t.pa, t.out)) (exec (.toggle 15#16 (some 3#8)) { idle with pa := 0x1234#16 }) =
      some (.readOutputForToggle, 0x8000#16, 0x1234#16, [yes, rd 0x04#8]) := by decide

/-- T1. -/
theorem test_toggle_complete :
    after stateAndOut (step { unit .readOutputForToggle .toggle [.busDone true 0x0001#16] with pins := 1#16 }) =
      some (.writeOutputForToggle, [wr 0x04#8 0x0000#16]) := by decide

/-- B1: directionsMask inverted to register level, valuesMask not. -/
theorem test_bulkWrite_accept :
    after (fun t => (t.state, t.pins, t.pa, t.pb, t.out))
      (exec (.bulkWrite 0x00F0#16 0x0030#16 0x0050#16 (some 4#8)) idle) =
      some (.readDirectionForBulkSet, 0x00F0#16, 0xFFCF#16, 0x0050#16, [yes, rd 0x0C#8]) := by decide

/-- B3 (its second write) and B4 (a write although nothing changes). -/
theorem test_bulkWrite_complete :
    after stateAndOut
      (step { unit .readOutputForBulkSet .bulkWrite [.busDone true 0xABCD#16] with pins := 0xFFFF#16, pb := 0x5555#16 }) =
      some (.writeOutputForBulkSet, [wr 0x04#8 0x5555#16]) ∧
    after stateAndOut (step { unit .readDirectionForBulkSet .bulkWrite [.busDone true 0xFF0F#16] with
      pins := 0x00F0#16, pa := 0xFF0F#16 }) = some (.writeDirectionForBulkSet, [wr 0x0C#8 0xFF0F#16]) := by decide

/-- T4 and T5: the value written; a write of the same value. -/
theorem test_bulkToggle :
    after (fun t => (t.state, t.kind, t.pins, t.out)) (exec (.bulkToggle 0x8001#16 (some 5#8)) idle) =
      some (.readOutputForToggle, .bulkToggle, 0x8001#16, [yes, rd 0x04#8]) ∧
    after stateAndOut (step { unit .readOutputForToggle .bulkToggle [.busDone true 0x00FF#16] with pins := 0x8001#16 }) =
      some (.writeOutputForToggle, [wr 0x04#8 0x80FE#16]) ∧
    after stateAndOut (step (unit .readOutputForToggle .bulkToggle [.busDone true 0x00FF#16])) =
      some (.writeOutputForToggle, [wr 0x04#8 0x00FF#16]) := by decide

/-- S1: both reads and both writes go to their own registers. -/
theorem test_bulkSetInt :
    after (fun t => (t.state, t.pins, t.pa, t.pb, t.out)) (exec (.bulkSetInt 0x000F#16 0x000C#16 (some 6#8)) idle) =
      some (.readInterruptDirection, 0x000F#16, 0x000F#16, 0x000C#16, [yes, rd 0x0C#8]) ∧
    after stateAndOut (step { unit .readInterruptDirection .bulkSetInt [.busDone true 0x0F00#16] with
      pins := 0x000F#16, pa := 0x000F#16 }) = some (.writeInterruptDirection, [wr 0x0C#8 0x0F0F#16]) ∧
    after stateAndOut (step (unit .writeInterruptDirection .bulkSetInt [.busDone true 0#16])) =
      some (.readInterruptMask, [rd 0x4A#8]) ∧
    after stateAndOut (step { unit .readInterruptMask .bulkSetInt [.busDone true 0xFFFF#16] with
      pins := 0x000F#16, pb := 0x000C#16 }) = some (.writeInterruptMask, [wr 0x4A#8 0xFFFC#16]) := by decide

/-- D1 and D3: the value read is staged; a failure leaves `in_snapshot`. -/
theorem test_bulkRead :
    after stateAndOut (exec (.bulkRead (some 7#8)) idle) = some (.readInputForServicing, [yes, rd 0x00#8]) ∧
    after (fun t => (t.state, t.resStatus, t.resValue, t.inSnapshot))
      (step (unit .readInputForServicing .bulkRead [.busDone true 0xA5C3#16])) =
      some (.signalDone, .ok, 0xA5C3#16, 0xA5C3#16) ∧
    after (fun t => (t.state, t.resStatus, t.resValue, t.inSnapshot))
      (step { unit .readInputForServicing .bulkRead [.busDone false 0x5555#16] with inSnapshot := 0x1234#16 }) =
      some (.signalDone, .busFail, 0#16, 0x1234#16) := by decide

/-- P3 step 1, and J6. -/
theorem test_setIH :
    after (fun t => (t.state, t.ihValid, t.ihTag, t.out)) (exec (.setIH 0xA5#8) idle) =
      some (.idle, true, 0xA5#8, [yes]) ∧
    after (fun t => (t.ihValid, t.ihTag, t.out)) (exec (.setIH 0x77#8) { unit .signalDone .write [] with ihTag := 0xA5#8 }) =
      some (false, 0xA5#8, [no .busy]) := by decide

/-- P6 step 5, and J7. -/
theorem test_clrIH :
    after (fun t => (t.ihValid, t.ihTag, t.out)) (exec .clrIH { idle with ihValid := true, ihTag := 0xA5#8 }) =
      some (false, 0xA5#8, [yes]) ∧
    after (fun t => (t.ihValid, t.out)) (exec .clrIH { unit .readDirection .mode [] with ihValid := true }) =
      some (true, [no .busy]) := by decide

/-! ## Rejections, interrupts, Reset (sections 2.9 and 2.10) -/

/-- J2, J3, J4, J5, J9: the order of the checks. -/
theorem test_rejections :
    after stateAndOut (step (unit .readDirection .mode [.cmd 0x1101000000000010#64])) =
      some (.readDirection, [no .invalidPin]) ∧
    after stateAndOut (step (unit .readDirection .mode [.cmd 0x0000000000000000#64])) =
      some (.readDirection, [no .invalidCmd]) ∧
    after stateAndOut (step (unit .idle .none [.cmd 0xA000000000000000#64])) = some (.idle, [no .invalidCmd]) ∧
    after stateAndOut (step (unit .idle .none [.cmd 0x1200000000000003#64])) = some (.idle, [no .invalidCmd]) ∧
    after stateAndOut (step (unit .idle .none [.cmd 0x110100000000FFFF#64])) = some (.idle, [no .invalidPin]) := by decide

/-- I1 and I2. -/
theorem test_irqEdge :
    after (fun t => (t.state, t.kind, t.irqPending, t.out)) (step (unit .idle .none [.irqEdge])) =
      some (.readInputForServicing, .service, false, [rd 0x00#8]) ∧
    after (fun t => (t.state, t.irqPending, t.out)) (step (unit .readOutputForToggle .bulkToggle [.irqEdge])) =
      some (.readOutputForToggle, true, []) := by decide

/-- I4 and I5: the same `Notify` under both policies. -/
theorem test_notify :
    after (fun t => (t.state, t.kind, t.irqPending, t.out))
      (step { unit .signalDone .bulkToggle [.notify] with cbValid := true, cbTag := 5#8, irqPending := true }) =
      some (.readInputForServicing, .service, false, [.done { tag := 5#8, status := .ok, value := 0#16 }, rd 0x00#8]) ∧
    after (fun t => (t.state, t.irqPending, t.out))
      (step { polled .signalDone .bulkToggle [.notify] with cbValid := true, cbTag := 5#8, irqPending := true }) =
      some (.idle, true, [.done { tag := 5#8, status := .ok, value := 0#16 }]) := by decide

/-- I6 and I7. -/
theorem test_pollTick :
    after stateAndOut (step { polled .idle .none [.pollTick] with irqPending := true }) =
      some (.readInputForServicing, [rd 0x00#8]) ∧
    after stateAndOut (step { polled .writeDirection .mode [.pollTick] with irqPending := true }) =
      some (.writeDirection, []) := by decide

/-- I8, I9 and I10. -/
theorem test_service :
    after (fun t => (t.state, t.inSnapshot, t.out)) (step (unit .readInputForServicing .service [.busDone true 4#16])) =
      some (.readInterruptStatus, 4#16, [rd 0x4C#8]) ∧
    after (fun t => (t.state, t.resStatus, t.resValue)) (step (unit .readInterruptStatus .service [.busDone true 4#16])) =
      some (.signalDone, .ok, 4#16) ∧
    after stateAndOut (step { unit .signalDone .service [.notify] with
      ihValid := true, ihTag := 0xA5#8, resValue := 4#16, inSnapshot := 5#16 }) =
      some (.idle, [.irqNotify { tag := 0xA5#8, status := .ok, changed := 4#16, values := 5#16 }]) := by decide

/-- I13 and I14. -/
theorem test_spurious :
    after stateAndOut (step (unit .idle .none [.busDone true 0x1234#16])) = some (.idle, []) ∧
    after stateAndOut (step (unit .signalDone .mode [.busDone false 0#16])) = some (.signalDone, []) := by decide

/-- I15, and the strap. -/
theorem test_reset :
    after (fun t => (t.state, t.kind, t.cbValid || t.ihValid || t.irqPending, t.devAddr, t.out))
      (step { unit .readInputForServicing .service [.reset] with ihValid := true, irqPending := true, devAddr := 0#7 }) =
      some (.idle, .none, false, 0x21#7, []) := by decide

/-- An empty environment: `Notify` is taken, then nothing moves. -/
theorem test_noEvent :
    after stateAndOut (step { unit .signalDone .mode [] with cbValid := true, cbTag := 1#8 }) =
      some (.idle, [.done { tag := 1#8, status := .ok, value := 0#16 }]) ∧
    after stateAndOut (step (unit .writeDirection .mode [])) = some (.writeDirection, []) := by decide

/-! ## The Builder (section 2.11) -/

/-- U1, U2, U3, U4, U5. -/
theorem test_builder :
    expandBuild [] = none ∧ expandBuild [.callback 9#8] = none ∧
    (expandBuild [.set 1 .output .low, .set 8 .output .high, .callback 9#8]).map encode = some 0x4109010001020102#64 ∧
    (expandBuild [.set 4 .output .high, .set 4 .input .low]).map encode = some 0x4000000000000010#64 ∧
    expandBuild [.set 16 .output .high] = none := by decide

/-- A Builder armed with pin 8. -/
def armed : Builder := applyOp newBuilder (.set 8 .output .high)

/-- U6: COMMIT to a busy Engine: sent once, rejected, the result given back; a second COMMIT is not legal. -/
theorem test_commit_busy :
    after (fun t => (t.state, t.builders, t.out))
      (step { unit .readDirection .mode [.builderCommit 0] with builders := [armed] }) =
      some (.readDirection, [{ armed with finished := true }],
        [no .busy, .commitResult 0 (some { accepted := false, reason := .busy })]) ∧
    after stateAndOut (step { unit .idle .none [.builderCommit 0] with builders := [{ armed with finished := true }] }) =
      none := by decide

/-! ## Witnesses -/

theorem witness_DecodeReadsTheFieldsOfTheFormula :
    (0x0#4 = 0x0#4 ∨ 0xA ≤ (0x0#4).toNat) ∧ 0xA ≤ (0xA#4).toNat ∧ 0xA ≤ (0xF#4).toNat ∧ (1#3 : BitVec 3) ≠ 0#3 := by decide

theorem witness_DecodedWordsMatchTheirTableRow :
    decode 0x1101000000000003#64 = .ok (.mode 3#16 .input (some 1#8)) ∧
    (1 ≤ (0x1#4).toNat ∧ (0x1#4).toNat ≤ 9 ∧
      0x11010000FFFE0003#64 &&& 0xFE00000000000000#64 = (0x1#4).setWidth 64 <<< 60) ∧
    (1 ≤ (0x9#4).toNat ∧ (0x9#4).toNat ≤ 9 ∧
      0x91FFFFFFFFFFFFFF#64 &&& 0xFE00000000000000#64 = (0x9#4).setWidth 64 <<< 60) ∧
    (∀ op : BitVec 4, 1 ≤ op.toNat → op.toNat ≤ 9 →
      0xA000000000000000#64 &&& 0xFE00000000000000#64 ≠ op.setWidth 64 <<< 60) := by decide

theorem witness_StepRunsTheDecodedCommand :
    (unit .idle .none [.cmd 0x2102000000010005#64]).input = .cmd 0x2102000000010005#64 :: [] ∧
    decode 0x2102000000010005#64 = .ok (.write 5#16 .high (some 2#8)) := by decide

theorem witness_CommandChecksInOrder :
    (unit .idle .none [.cmd 0x9000000000000000#64]).input = .cmd 0x9000000000000000#64 :: [] ∧
    (checksOfR122 0x9000000000000000#64 idle).accepted = true ∧
    (checksOfR122 0x100000000000000F#64 idle).accepted = true ∧
    (checksOfR122 0x1000000000000010#64 idle).accepted = false ∧
    (checksOfR122 0xA000000000000000#64 idle).accepted = false ∧
    (checksOfR122 0x9200000000000000#64 idle).accepted = false ∧
    (checksOfR122 0x9000000000000000#64 (unit .signalDone .mode [])).accepted = false := by decide

theorem witness_BusyEngineRejectsCommands :
    Instr.wellFormed (.mode 15#16 .input none) = true ∧ (unit .readDirection .mode []).state ≠ .idle ∧
    (unit .signalDone .mode []).state ≠ .idle := by decide

theorem witness_InvalidPinIsRejected :
    16 ≤ (16#16 : Word).toNat ∧ 16 ≤ (0xFFFF#16 : Word).toNat ∧
    exec (.toggle 16#16 none) idle = .next { idle with out := [no .invalidPin] } ∧
    ({ idle with out := [no .invalidPin] } : State).out = idle.out ++ no .invalidPin :: [] :=
  ⟨by decide, by decide, rfl, rfl⟩

theorem witness_ModeAcceptance : (0#16 : Word).toNat < 16 ∧ (15#16 : Word).toNat < 16 ∧ idle.state = .idle := by decide

theorem witness_WriteAcceptance : (0#16 : Word).toNat < 16 ∧ (15#16 : Word).toNat < 16 ∧ idle.state = .idle := by decide

theorem witness_ToggleAcceptance : (0#16 : Word).toNat < 16 ∧ (15#16 : Word).toNat < 16 ∧ idle.state = .idle := by decide

theorem witness_BulkWriteAcceptance : idle.state = .idle := by decide

theorem witness_BulkToggleAcceptance : idle.state = .idle := by decide

theorem witness_BulkSetIntAcceptance : idle.state = .idle := by decide

theorem witness_BulkReadAcceptance : idle.state = .idle := by decide

theorem witness_SetIhEffect : idle.state = .idle ∧ (unit .writeDirection .mode []).state ≠ .idle := by decide

theorem witness_ClrIhEffect :
    ({ idle with ihValid := true } : State).state = .idle ∧ (unit .writeDirection .mode []).state ≠ .idle := by decide

theorem witness_SequenceAcceptanceByTheTables :
    sequenceKind (.bulkSetInt 0xFFFF#16 0#16 none) = some .bulkSetInt ∧
    Instr.wellFormed (.bulkSetInt 0xFFFF#16 0#16 none) = true ∧ idle.state = .idle := by decide

theorem witness_MergeRuleAndLaws :
    15 < 16 ∧ (0x8000#16 : Word).getLsbD 15 = true ∧ (0x8000#16 : Word).getLsbD 0 = false := by decide

/-- The pending request of MODE 3, OUT, with a completion to come. -/
def modeUnit (rdata : Word) : State :=
  { unit .readDirection .mode [.busDone true rdata] with pins := 0x0008#16, pa := 0x0000#16 }

/-- The pending request of WRITE 15, HI, with a completion to come. -/
def writeUnit (rdata : Word) : State :=
  { unit .readOutputForWrite .write [.busDone true rdata] with pins := 0x8000#16, pa := 0x8000#16 }

theorem witness_ModeAndWriteReadCompletions :
    (modeUnit 0xFFF7#16).input = .busDone true 0xFFF7#16 :: [] ∧
    ((0xFFF7#16 &&& ~~~(modeUnit 0xFFF7#16).pins) ||| ((modeUnit 0xFFF7#16).pins &&& (modeUnit 0xFFF7#16).pa)) = 0xFFF7#16 ∧
    ((0xFFFF#16 &&& ~~~(modeUnit 0xFFFF#16).pins) ||| ((modeUnit 0xFFFF#16).pins &&& (modeUnit 0xFFFF#16).pa)) ≠ 0xFFFF#16 ∧
    ((0x8000#16 &&& ~~~(writeUnit 0x8000#16).pins) ||| ((writeUnit 0x8000#16).pins &&& (writeUnit 0x8000#16).pa)) = 0x8000#16 ∧
    ((0x0000#16 &&& ~~~(writeUnit 0x0000#16).pins) ||| ((writeUnit 0x0000#16).pins &&& (writeUnit 0x0000#16).pa)) ≠ 0x0000#16 ∧
    (modeUnit 0xFFFF#16).state = .readDirection ∧ (writeUnit 0#16).state = .readOutputForWrite ∧
    (modeUnit 0xFFFF#16).pins = 1#16 <<< 3 ∧ (writeUnit 0#16).pins = 1#16 <<< 15 := by decide

theorem witness_ReadOutputForToggleCompletion :
    (unit .readOutputForToggle .toggle [.busDone true 0xFFFF#16]).state = .readOutputForToggle ∧
    (unit .readOutputForToggle .toggle [.busDone true 0xFFFF#16]).input = .busDone true 0xFFFF#16 :: [] := by decide

theorem witness_BulkWriteCompletions :
    ∀ e ∈ [EngineState.readDirectionForBulkSet, .writeDirectionForBulkSet, .readOutputForBulkSet],
      (unit e .bulkWrite [.busDone true 0x1234#16]).state = e ∧
      (unit e .bulkWrite [.busDone true 0x1234#16]).input = .busDone true 0x1234#16 :: [] := by decide

theorem witness_BulkSetIntCompletions :
    ∀ e ∈ [EngineState.readInterruptDirection, .writeInterruptDirection, .readInterruptMask],
      (unit e .bulkSetInt [.busDone true 0x1234#16]).state = e ∧
      (unit e .bulkSetInt [.busDone true 0x1234#16]).input = .busDone true 0x1234#16 :: [] ∧
      (unit e .bulkSetInt []).pa = (unit e .bulkSetInt []).pins := by decide

theorem witness_LastWriteCompletions :
    ∀ e ∈ [EngineState.writeDirection, .writeOutputForWrite, .writeOutputForToggle, .writeOutputForBulkSet,
        .writeInterruptMask],
      (unit e .mode [.busDone true 0x1234#16]).state = e ∧
      (unit e .mode [.busDone true 0x1234#16]).input = .busDone true 0x1234#16 :: [] := by decide

theorem witness_ServiceAndBulkReadCompletions :
    (unit .readInputForServicing .service [.busDone true 4#16]).input = .busDone true 4#16 :: [] ∧
    (unit .readInputForServicing .service []).state = .readInputForServicing ∧
    (unit .readInputForServicing .service []).kind = .service ∧
    (unit .readInputForServicing .bulkRead []).kind = .bulkRead ∧
    (unit .readInterruptStatus .service [.busDone true 4#16]).state = .readInterruptStatus := by decide

theorem witness_BusFailureAbortsTheSequence :
    busOutstanding (unit .readOutputForBulkSet .bulkWrite [.busDone false 0#16, .notify]).state = true ∧
    (unit .readOutputForBulkSet .bulkWrite [.busDone false 0#16]).input = .busDone false 0#16 :: [] ∧
    (unit .readOutputForBulkSet .bulkWrite [.busDone false 0#16, .notify]).input = .busDone false 0#16 :: .notify :: [] ∧
    ¬((unit .readOutputForBulkSet .bulkWrite []).irqPending = true ∧
      (unit .readOutputForBulkSet .bulkWrite []).cfg.policy = .immediate) ∧
    (({ unit .readInterruptStatus .service [] with irqPending := true } : State).irqPending = true ∧
      (unit .readInterruptStatus .service []).cfg.policy = .immediate) := by decide

theorem witness_SpuriousCompletionIsIgnored :
    (unit .idle .none [.busDone true 0x1234#16]).input = .busDone true 0x1234#16 :: [] ∧
    (unit .idle .none []).state = .idle ∧ (unit .signalDone .mode []).state = .signalDone := by decide

theorem witness_NotifyDeliversAndReturns :
    (unit .signalDone .service [.notify]).state = .signalDone ∧
    (unit .signalDone .service [.notify]).input = .notify :: [] ∧
    (({ unit .signalDone .service [.notify] with irqPending := true } : State).irqPending = true ∧
      (unit .signalDone .service []).cfg.policy = .immediate) ∧
    ¬((unit .signalDone .service []).irqPending = true ∧ (unit .signalDone .service []).cfg.policy = .immediate) := by decide

theorem witness_EngineMovesByItselfOnlyToNotify :
    (unit .readDirection .mode []).input = [] ∧ (unit .readDirection .mode []).state ≠ .signalDone ∧
    (unit .signalDone .mode []).input = [] ∧ (unit .signalDone .mode []).state = .signalDone := by decide

theorem witness_IrqEdgeLatchesOrStartsTheService :
    (unit .idle .none [.irqEdge]).input = .irqEdge :: [] ∧ (unit .idle .none []).state = .idle ∧
    (unit .signalDone .mode [.irqEdge]).state ≠ .idle := by decide

theorem witness_PolledServiceStartsAtATick :
    (polled .idle .none [.pollTick]).cfg.policy = .polled ∧
    (polled .idle .none [.pollTick]).input = .pollTick :: [] ∧ (polled .idle .none []).state = .idle ∧
    ({ polled .idle .none [] with irqPending := true } : State).irqPending = true ∧
    ¬((polled .idle .none []).state = .idle ∧ (polled .idle .none []).irqPending = true) ∧
    (polled .signalDone .mode [.notify]).input = .notify :: [] ∧
    (polled .signalDone .mode [.notify]).state = .signalDone := by decide

theorem witness_ResetStepFromAnyState :
    (unit .readInterruptStatus .service [.reset]).input = .reset :: [] := by decide

/-- A machine waiting for the read of MODE 3, IN @1. -/
def waiting (evs : List Event) : State :=
  { unit .readDirection .mode evs with pins := 0x0008#16, pa := 0x0008#16, cbValid := true, cbTag := 1#8 }

/-- The invariant in a state that is not the reset state. -/
theorem waiting_inv (evs : List Event) : EngineInv (waiting evs) where
  kind_fits := by simp [waiting, unit, kindFits]
  service_no_target := by simp [waiting, unit]
  immediate_idle := by simp [waiting, unit]
  strap_addr := rfl
  pending_shape := ⟨⟨3, rfl⟩, .inl rfl⟩
  result_shape := by simp [resultShape, waiting, unit]

theorem witness_EngineInvIsKeptByEveryStep :
    EngineInv (waiting [.busDone true 0#16]) ∧
    step (waiting [.busDone true 0#16]) =
      .next { waiting [] with state := .writeDirection, out := [wr 0x0C#8 0x0008#16] } :=
  ⟨waiting_inv _, rfl⟩

theorem witness_StepsFollowTheTransitionTable :
    step (waiting [.busDone true 0#16]) =
      .next { waiting [] with state := .writeDirection, out := [wr 0x0C#8 0x0008#16] } ∧
    step (waiting []) = .next (waiting []) :=
  ⟨rfl, rfl⟩

theorem witness_OnlyBuilderMisuseStopsTheMachine :
    isBuilderEvent (nextEvent (waiting [.irqEdge])) = false ∧ isBuilderEvent (nextEvent (waiting [])) = false ∧
    (unit .idle .none [.builderNew]).input = .builderNew :: [] ∧
    ({ idle with builders := [armed] } : State).builders[0]? = some armed ∧ armed.finished = false ∧
    ({ idle with builders := [armed] } : State).builders[1]? = none ∧
    ({ idle with builders := [{ armed with finished := true }] } : State).builders[0]? = some { armed with finished := true } ∧
    ({ armed with finished := true } : Builder).finished = true ∧
    (unit .idle .none [.builderOp 0 (.callback 9#8)]).input = .builderOp 0 (.callback 9#8) :: [] ∧
    (unit .idle .none [.builderCommit 0]).input = .builderCommit 0 :: [] := by decide

theorem witness_PendingRequestAndHandlerAreStable :
    busOutstanding (waiting [.irqEdge]).state = true ∧ nextEvent (waiting [.irqEdge]) ≠ .reset ∧
    after (fun t => t.irqPending) (step (waiting [.irqEdge])) = some true := by decide

theorem witness_OnlyNotifyNotifies :
    ∃ t, step { waiting [.notify] with state := .signalDone } = .next t ∧
      (newOutputs { waiting [.notify] with state := .signalDone } t).any isNotification = true :=
  ⟨_, rfl, rfl⟩

theorem witness_BusRequestsAreTheStatesOwn :
    (∃ t, step (waiting [.busDone true 0#16]) = .next t ∧ t.state ≠ (waiting []).state ∧
      outstanding t.state = some (.write, .config)) ∧
    (∃ t, step (waiting [.irqEdge]) = .next t ∧ t.state = (waiting []).state) ∧
    (∃ t, step (waiting [.busDone false 0#16]) = .next t ∧ busOutstanding t.state = false) :=
  ⟨⟨_, rfl, by decide, rfl⟩, ⟨_, rfl, rfl⟩, ⟨_, rfl, rfl⟩⟩

theorem witness_ParametersAndPastOutputsAreFixed :
    (∃ t, step (waiting [.busDone true 0#16]) = .next t) ∧ nextEvent (waiting [.busDone true 0#16]) ≠ .reset :=
  ⟨⟨_, rfl⟩, by decide⟩

theorem witness_NoInterruptIsDropped :
    (∃ t, step { unit .signalDone .mode [.notify] with irqPending := true } = .next t) ∧
    nextEvent { unit .signalDone .mode [.notify] with irqPending := true } ≠ .reset ∧
    ({ unit .signalDone .mode [.notify] with irqPending := true } : State).irqPending = true ∧
    nextEvent (waiting [.irqEdge]) = .irqEdge ∧ (∃ t, step (waiting [.irqEdge]) = .next t) :=
  ⟨⟨_, rfl⟩, by decide, rfl, rfl, ⟨_, rfl⟩⟩

theorem witness_HungBusParksTheEngine :
    [Event.cmd 0x9000000000000000#64, .irqEdge, .notify, .pollTick].all parks = true ∧
    busOutstanding (waiting []).state = true ∧
    (waiting [.cmd 0x9000000000000000#64, .irqEdge, .notify, .pollTick]).input =
      [.cmd 0x9000000000000000#64, .irqEdge, .notify, .pollTick] ++ [] ∧
    (∀ ok r, nextEvent (waiting [.builderNew]) ≠ .busDone ok r) ∧ nextEvent (waiting [.builderNew]) ≠ .reset ∧
    ∃ t, step (waiting [.builderNew]) = .next t :=
  ⟨by decide, by decide, rfl, by simp [nextEvent, waiting, unit], by decide, _, rfl⟩

theorem witness_EverySequenceEndsWithOneDone :
    busOutstanding (unit .readDirectionForBulkSet .bulkWrite []).state = true ∧
    (unit .readDirectionForBulkSet .bulkWrite
      [.busDone true 0#16, .busDone true 0#16, .busDone true 0#16, .busDone true 0#16, .notify]).input =
      .busDone true 0#16 :: .busDone true 0#16 :: .busDone true 0#16 :: .busDone true 0#16 :: .notify :: [] := by decide

/-- Two machines in `Idle` that differ in dead registers. -/
theorem witness_DeadRegistersAreNeverRead :
    EngineInv (unit .idle .none [.pollTick]) ∧
    EngineInv { unit .idle .none [.pollTick] with pins := 0x1234#16, cbTag := 7#8, ihTag := 9#8, resStatus := .busFail } ∧
    scrub (unit .idle .none [.pollTick]) =
      scrub { unit .idle .none [.pollTick] with pins := 0x1234#16, cbTag := 7#8, ihTag := 9#8, resStatus := .busFail } ∧
    unit .idle .none [.pollTick] ≠
      { unit .idle .none [.pollTick] with pins := 0x1234#16, cbTag := 7#8, ihTag := 9#8, resStatus := .busFail } :=
  ⟨⟨rfl, by simp [unit], fun _ _ => rfl, rfl, trivial, by simp [resultShape, unit]⟩,
    ⟨rfl, by simp [unit], fun _ _ => rfl, rfl, trivial, by simp [resultShape, unit]⟩, by decide,
    fun h => absurd (congrArg State.pins h) (by decide)⟩

theorem witness_ModeSequence :
    idle.state = .idle ∧ (15#16 : Word).toNat < 16 ∧ (0#16 : Word).toNat < 16 ∧ idle.irqPending = false ∧
    (polled .idle .none []).cfg.policy = .polled ∧
    (0x8000#16 : Word).getLsbD (15#16 : Word).toNat = decide (Direction.input = .input) ∧
    (0x0001#16 : Word).getLsbD (0#16 : Word).toNat ≠ decide (Direction.output = .input) ∧
    (unit .idle .none [.cmd (encode (.mode 15#16 .input (some 1#8))), .busDone true 0x8000#16, .notify]).input =
      .cmd (encode (.mode 15#16 .input (some 1#8))) :: .busDone true 0x8000#16 :: .notify :: [] ∧
    (unit .idle .none [.cmd (encode (.mode 0#16 .output none)), .busDone true 1#16, .busDone true 0#16, .notify]).input =
      .cmd (encode (.mode 0#16 .output none)) :: .busDone true 1#16 :: .busDone true 0#16 :: .notify :: [] := by decide

theorem witness_WriteSequence :
    idle.state = .idle ∧ (15#16 : Word).toNat < 16 ∧ (0#16 : Word).toNat < 16 ∧ idle.irqPending = false ∧
    (0x8000#16 : Word).getLsbD (15#16 : Word).toNat = decide (Level.high = .high) ∧
    (0x0001#16 : Word).getLsbD (0#16 : Word).toNat ≠ decide (Level.low = .high) ∧
    (unit .idle .none [.cmd (encode (.write 15#16 .high (some 2#8))), .busDone true 0x8000#16, .notify]).input =
      .cmd (encode (.write 15#16 .high (some 2#8))) :: .busDone true 0x8000#16 :: .notify :: [] ∧
    (unit .idle .none [.cmd (encode (.write 0#16 .low none)), .busDone true 1#16, .busDone true 0#16, .notify]).input =
      .cmd (encode (.write 0#16 .low none)) :: .busDone true 1#16 :: .busDone true 0#16 :: .notify :: [] := by decide

/-- The events of a two-write sequence. -/
def fourCompletions (i : Instr) : List Event :=
  [.cmd (encode i), .busDone true 0xFFFF#16, .busDone true 0#16, .busDone true 0#16, .busDone true 0#16, .notify]

theorem witness_BulkWriteSequence :
    idle.state = .idle ∧ idle.irqPending = false ∧
    (unit .idle .none (fourCompletions (.bulkWrite 0x00F0#16 0x0030#16 0x0050#16 (some 4#8)))).input =
      .cmd (encode (.bulkWrite 0x00F0#16 0x0030#16 0x0050#16 (some 4#8))) :: .busDone true 0xFFFF#16 :: .busDone true 0#16 ::
        .busDone true 0#16 :: .busDone true 0#16 :: .notify :: [] := by decide

theorem witness_ToggleSequences :
    idle.state = .idle ∧ idle.irqPending = false ∧ (15#16 : Word).toNat < 16 ∧
    (unit .idle .none [.cmd (encode (.toggle 15#16 (some 3#8))), .busDone true 0#16, .busDone true 0#16, .notify]).input =
      .cmd (encode (.toggle 15#16 (some 3#8))) :: .busDone true 0#16 :: .busDone true 0#16 :: .notify :: [] ∧
    (unit .idle .none [.cmd (encode (.bulkToggle 0#16 none)), .busDone true 0x00FF#16, .busDone true 0#16, .notify]).input =
      .cmd (encode (.bulkToggle 0#16 none)) :: .busDone true 0x00FF#16 :: .busDone true 0#16 :: .notify :: [] := by decide

theorem witness_BulkSetIntSequence :
    idle.state = .idle ∧ idle.irqPending = false ∧
    (unit .idle .none (fourCompletions (.bulkSetInt 0x000F#16 0x000C#16 (some 6#8)))).input =
      .cmd (encode (.bulkSetInt 0x000F#16 0x000C#16 (some 6#8))) :: .busDone true 0xFFFF#16 :: .busDone true 0#16 ::
        .busDone true 0#16 :: .busDone true 0#16 :: .notify :: [] ∧
    (unit .idle .none (fourCompletions (.bulkSetInt 0x000F#16 0x000C#16 none))).input =
      .cmd (encode (.bulkSetInt 0x000F#16 0x000C#16 none)) :: .busDone true 0xFFFF#16 :: .busDone true 0#16 ::
        .busDone true 0#16 :: .busDone true 0#16 :: .notify :: [] := by decide

theorem witness_BulkReadSequence :
    idle.state = .idle ∧ idle.irqPending = false ∧
    (unit .idle .none [.cmd (encode (.bulkRead (some 7#8))), .busDone true 0xA5C3#16, .notify]).input =
      .cmd (encode (.bulkRead (some 7#8))) :: .busDone true 0xA5C3#16 :: .notify :: [] ∧
    (unit .idle .none [.cmd (encode (.bulkRead none)), .busDone true 0xA5C3#16, .notify]).input =
      .cmd (encode (.bulkRead none)) :: .busDone true 0xA5C3#16 :: .notify :: [] := by decide

/-- The ids of the tests are distinct. -/
theorem params_idsDistinct (p : Config.StartPolicy) : idsDistinct (params p) := by
  refine ⟨fun r => by cases r <;> simp [params, regId], fun r q => by cases r <;> cases q <;> simp [params, regId]⟩

theorem witness_ServiceSequence :
    (unit .idle .none [.irqEdge, .busDone true 5#16, .busDone true 4#16, .notify]).state = .idle ∧
    (unit .idle .none [.irqEdge, .busDone true 5#16, .busDone true 4#16, .notify]).input =
      .irqEdge :: .busDone true 5#16 :: .busDone true 4#16 :: .notify :: [] ∧
    idsDistinct (unit .readInputForServicing .service [.busDone true 5#16]).cfg ∧
    ∃ t, step (unit .readInputForServicing .service [.busDone true 5#16]) = .next t ∧
      rd 0x4C#8 ∈ newOutputs (unit .readInputForServicing .service [.busDone true 5#16]) t ∧
      0x4C#8 = (unit .readInputForServicing .service [.busDone true 5#16]).cfg.regIntStat :=
  ⟨by decide, rfl, params_idsDistinct _, _, rfl, by decide, rfl⟩

theorem witness_FailedServiceReportsNoReading :
    (unit .readInterruptStatus .service [.busDone false 0#16, .notify]).kind = .service ∧
    (unit .readInterruptStatus .service []).irqPending = false ∧
    (unit .readInterruptStatus .service []).state = .readInterruptStatus ∧
    (unit .readInputForServicing .service []).state = .readInputForServicing ∧
    (unit .readInterruptStatus .service [.busDone false 0#16, .notify]).input = .busDone false 0#16 :: .notify :: [] := by
  decide

theorem witness_BuilderCallsAccumulate :
    ({ idle with builders := [newBuilder] } : State).builders[0]? = some newBuilder ∧ newBuilder.finished = false ∧
    (unit .idle .none [.builderOp 0 (.set 15 .output .high)]).input = .builderOp 0 (.set 15 .output .high) :: [] ∧
    (unit .idle .none [.builderOp 0 (.set 16 .output .high)]).input = .builderOp 0 (.set 16 .output .high) :: [] ∧
    (unit .idle .none [.builderOp 0 (.callback 9#8)]).input = .builderOp 0 (.callback 9#8) :: [] := by decide

theorem witness_BuilderCommitSendsOneBulkWrite :
    ({ idle with builders := [armed] } : State).builders[0]? = some armed ∧
    ({ idle with builders := [newBuilder] } : State).builders[0]? = some newBuilder ∧
    armed.finished = false ∧ armed.armed = true ∧ newBuilder.finished = false ∧ newBuilder.armed = false ∧
    (unit .idle .none [.builderCommit 0]).input = .builderCommit 0 :: [] := by decide

theorem witness_BuilderExpandsToOneBulkWrite :
    (∀ p < 16, lastSet p [.set 16 .output .high, .callback 9#8] = none) ∧
    (∃ p < 16, lastSet p [.set 0 .output .high, .set 15 .input .low] ≠ none) :=
  ⟨by decide, 15, by decide, by decide⟩

theorem witness_ClockedPriorityOrder :
    Event.notify ∉ [Event.busDone true 0#16] ∧ Event.notify ∉ [Event.irqEdge] ∧ idle.state = .idle ∧ idle.input = [] ∧
    Instr.wellFormed (.bulkRead (some 7#8)) = true := by decide

theorem witness_ReferenceDeviceAccesses :
    idsDistinct (params .polled) ∧
    (⟨.read, 0x21#7, 0x4C#8, 2#2, 0#16⟩ : BusReq).reg = regId (params .polled) .intStat ∧
    (⟨.read, 0x21#7, 0x4C#8, 2#2, 0#16⟩ : BusReq).rw = .read ∧
    (⟨.write, 0x21#7, 0x00#8, 2#2, 0xFFFF#16⟩ : BusReq).reg = regId (params .polled) .input ∧
    (⟨.write, 0x21#7, 0x00#8, 2#2, 0xFFFF#16⟩ : BusReq).rw = .write :=
  ⟨params_idsDistinct _, rfl, rfl, rfl, rfl⟩

theorem witness_BulkWriteInTheReferenceEnvironment :
    idsDistinct (unit .idle .none [.cmd (encode (.bulkWrite 0x00F0#16 0x0030#16 0x0050#16 (some 4#8)))]).cfg ∧
    (unit .idle .none [.cmd (encode (.bulkWrite 0x00F0#16 0x0030#16 0x0050#16 (some 4#8)))]).state = .idle ∧
    (unit .idle .none [.cmd (encode (.bulkWrite 0x00F0#16 0x0030#16 0x0050#16 (some 4#8)))]).irqPending = false ∧
    (unit .idle .none [.cmd (encode (.bulkWrite 0x00F0#16 0x0030#16 0x0050#16 (some 4#8)))]).input =
      [.cmd (encode (.bulkWrite 0x00F0#16 0x0030#16 0x0050#16 (some 4#8)))] ∧ 0 < 4 ∧ 3 < 4 :=
  ⟨params_idsDistinct _, rfl, rfl, rfl, by decide, by decide⟩

theorem witness_TwoTogglesRestoreTheOutput :
    idsDistinct (unit .idle .none [.cmd (encode (.toggle 15#16 none))]).cfg ∧ (15#16 : Word).toNat < 16 ∧
    (unit .idle .none [.cmd (encode (.toggle 15#16 none))]).state = .idle ∧
    (unit .idle .none [.cmd (encode (.toggle 15#16 none))]).irqPending = false ∧
    (unit .idle .none [.cmd (encode (.toggle 15#16 none))]).input = [.cmd (encode (.toggle 15#16 none))] :=
  ⟨params_idsDistinct _, by decide, rfl, rfl, rfl⟩

/-- The device of the closed runs below. -/
def device : RefDevice :=
  { input := 0x00F0#16, output := 0x0000#16, config := 0xFFFF#16, intMask := 0xFFFF#16, intStat := 0x0010#16 }

/-- A reply that fails. -/
def fails : Reply := { wait := 0, failed := some 0x5555#16 }

/-- B1 in the reference environment: `CFG` and `OUT` after. -/
theorem test_closed_B1 :
    (closedRun 6 [] (unit .idle .none [.cmd 0x41040050003000F0#64]) device).map
        (fun p => (p.1.state, p.2.config, p.2.output)) = some (.idle, 0xFFCF#16, 0x0050#16) := by decide

/-- M7: the one read fails; `CFG` is untouched. -/
theorem test_closed_M7 :
    (closedRun 3 [fails] (unit .idle .none [.cmd 0x1101000000000003#64]) { device with config := 0#16 }).map
        (fun p => (p.1.state, p.2.config, p.1.out)) =
      some (.idle, 0#16, [yes, rd 0x0C#8, .done { tag := 1#8, status := .busFail, value := 0#16 }]) := by decide

/-- B7: the read of `OUT` fails, `CFG` is merged already. -/
theorem test_closed_B7 :
    (closedRun 5 [promptOk, promptOk, fails] (unit .idle .none [.cmd 0x41040050003000F0#64]) device).map
        (fun p => (p.2.config, p.2.output, p.1.out)) =
      some (0xFFCF#16, 0x0000#16, [yes, rd 0x0C#8, wr 0x0C#8 0xFFCF#16, rd 0x04#8,
        .done { tag := 4#8, status := .busFail, value := 0#16 }]) := by decide

/-- P6 steps 1 to 4: the read of `ISTAT` fails, and `ISTAT` keeps its value. -/
theorem test_closed_P6 :
    (closedRun 4 [promptOk, fails] { unit .idle .none [.irqEdge] with ihValid := true, ihTag := 0xA5#8 } device).map
        (fun p => (p.1.state, p.2.intStat, p.1.out)) =
      some (.idle, 0x0010#16, [rd 0x00#8, rd 0x4C#8,
        .irqNotify { tag := 0xA5#8, status := .busFail, changed := 0#16, values := 0#16 }]) := by decide

/-- P7, in two parts: the other master's write of `OUT` comes before the write of step 4, and is lost. -/
theorem test_closed_P7 :
    ((closedRun 3 [] (unit .idle .none [.cmd 0x41040005000F000F#64]) { device with output := 0x0F00#16 }).bind
        (fun p => closedRun 3 [] p.1 { p.2 with output := 0xF0F0#16 })).map
        (fun p => (p.1.state, p.2.config, p.2.output)) = some (.idle, 0xFFF0#16, 0x0F05#16) := by decide

/-- An answer that comes after one waiting event: the second command meets a busy Engine. -/
theorem test_closed_lateAnswer :
    (closedRun 4 [{ promptOk with wait := 1 }] (unit .idle .none [.cmd 0x7107000000000000#64, .cmd 0x9000000000000000#64])
        device).map (fun p => (p.1.state, p.1.out)) =
      some (.idle, [yes, rd 0x00#8, no .busy, .done { tag := 7#8, status := .ok, value := 0x00F0#16 }]) := by decide

end Sys2Proof.Tests
end

section
/-! The state right after reset (spec/10_state.md R37). -/

namespace Sys2Proof.Machine

/-- At reset `dev_addr` is the address the strap selects (R30, R37). -/
theorem State.reset_devAddr : State.reset.devAddr = strapAddr State.reset.cfg := rfl

/-- The address the strap selects, by the strap (R30). -/
theorem strapAddr_eq_ite (c : Config.Params) : strapAddr c = if c.addrSel then c.devAddr1 else c.devAddr0 := rfl

/-- Settles O33: each stated register by its value in `State.reset`, the address through the strap. -/
theorem resetStateHoldsTheStatedValues : Obligations.ResetStateHoldsTheStatedValues := by
  have devAddr_by_strap : State.reset.devAddr =
      if State.reset.cfg.addrSel then State.reset.cfg.devAddr1 else State.reset.cfg.devAddr0 :=
    State.reset_devAddr.trans (strapAddr_eq_ite State.reset.cfg)
  exact ⟨rfl, rfl, rfl, rfl, rfl, devAddr_by_strap, rfl⟩

end Sys2Proof.Machine
end

section
/-! The bus-request port (spec/20_memory.md R67): which requests stand among the outputs of a step, told from the state entered. -/

namespace Sys2Proof.Machine

/-- The bus requests that may be issued in moving from `s` to the sequencer state `e`: none if the Engine stays or then waits for
no operation, else the one operation `e` is named after (R67). -/
inductive EntryRequests (s : State) (e : EngineState) : List Output → Prop
  | quiet (h : e = s.state ∨ busOutstanding e = false) : EntryRequests s e []
  | read (r : RemoteReg) (hne : e ≠ s.state) (he : outstanding e = some (.read, r)) :
      EntryRequests s e [.busReq (readReq s r)]
  | write (r : RemoteReg) (v : Word) (hne : e ≠ s.state) (he : outstanding e = some (.write, r)) :
      EntryRequests s e [.busReq (writeReq s r v)]

/-- From `s` to `t` outputs are only added, and the bus requests among them are those of entering `t`'s state. -/
def IssuesOnEntry (s t : State) : Prop :=
  ∃ o, t.out = s.out ++ o ∧ EntryRequests s t.state (o.filter isBusReq)

/-- Two states agree in all that the bus-request port reads of the state before a step. -/
structure SamePort (s s' : State) : Prop where
  state : s.state = s'.state
  devAddr : s.devAddr = s'.devAddr
  cfg : s.cfg = s'.cfg

/-! ## What `EntryRequests` says of the requests -/

/-- Requests are judged by the port alone. -/
theorem EntryRequests.of_samePort {s s' : State} {e : EngineState} {l : List Output} (hp : SamePort s s')
    (h : EntryRequests s e l) : EntryRequests s' e l := by
  obtain ⟨hstate, haddr, hcfg⟩ := hp
  cases h with
  | quiet h => exact .quiet (hstate ▸ h)
  | read r hne he =>
    rw [show readReq s r = readReq s' r by simp [readReq, haddr, hcfg]]
    exact .read r (hstate ▸ hne) he
  | write r v hne he =>
    rw [show writeReq s r v = writeReq s' r v by simp [writeReq, haddr, hcfg]]
    exact .write r v (hstate ▸ hne) he

/-- A move to a state that waits for an operation is none of the moves without a request. -/
theorem not_quiet_of_outstanding {s : State} {e : EngineState} {q : BusOp × RemoteReg} (hne : e ≠ s.state)
    (he : outstanding e = some q) : ¬(e = s.state ∨ busOutstanding e = false) := by
  simp [hne, busOutstanding, he]

/-- Without a move to a waiting state nothing is issued. -/
theorem EntryRequests.eq_nil {s : State} {e : EngineState} {l : List Output} (h : EntryRequests s e l)
    (hq : e = s.state ∨ busOutstanding e = false) : l = [] := by
  cases h with
  | quiet _ => rfl
  | read _ hne he | write _ _ hne he => exact absurd hq (not_quiet_of_outstanding hne he)

/-- A move to a waiting state issues the operation it waits for, a read with `wdata = 0`. -/
theorem EntryRequests.eq_singleton {s : State} {e : EngineState} {l : List Output} {op : BusOp} {r : RemoteReg}
    (h : EntryRequests s e l) (hne : e ≠ s.state) (he : outstanding e = some (op, r)) :
    ∃ v : Word, (op = .read → v = 0#16) ∧
      l = [.busReq { rw := op, addr := s.devAddr, reg := regId s.cfg r, len := 2#2, wdata := v }] := by
  cases h with
  | quiet hq => exact absurd hq (not_quiet_of_outstanding hne he)
  | read r' _ he' =>
    obtain ⟨rfl, rfl⟩ : BusOp.read = op ∧ r' = r := by simpa using he'.symm.trans he
    exact ⟨0#16, fun _ => rfl, rfl⟩
  | write r' v _ he' =>
    obtain ⟨rfl, rfl⟩ : BusOp.write = op ∧ r' = r := by simpa using he'.symm.trans he
    exact ⟨v, nofun, rfl⟩

/-! ## The rules for the operations a step is made of -/

/-- The start may be replaced by one with the same port and fewer outputs, if no request is among those left out. -/
theorem IssuesOnEntry.of_earlier {s s' t : State} {o : List Output} (h : IssuesOnEntry s' t) (hp : SamePort s' s)
    (hout : s'.out = s.out ++ o) (ho : o.filter isBusReq = []) : IssuesOnEntry s t := by
  obtain ⟨o', hout', hreq⟩ := h
  refine ⟨o ++ o', by rw [hout', hout, List.append_assoc], ?_⟩
  rw [List.filter_append, ho, List.nil_append]
  exact hreq.of_samePort hp

/-- The start may be replaced by one with the same port and the same outputs. -/
theorem IssuesOnEntry.of_samePort {s s' t : State} (h : IssuesOnEntry s' t) (hp : SamePort s' s)
    (hout : s'.out = s.out) : IssuesOnEntry s t :=
  h.of_earlier hp (hout.trans (List.append_nil _).symm) rfl

/-- A further output that is no request changes nothing. -/
theorem IssuesOnEntry.emit {s t : State} {o : Output} (h : IssuesOnEntry s t) (ho : isBusReq o = false) :
    IssuesOnEntry s (t.emit o) := by
  obtain ⟨o', hout, hreq⟩ := h
  refine ⟨o' ++ [o], by simp [hout], ?_⟩
  simpa [List.filter_append, ho] using hreq

/-- A change that puts nothing out and enters no waiting state. -/
theorem issuesOnEntry_quiet {s t : State} (hout : t.out = s.out) (h : t.state = s.state ∨ busOutstanding t.state = false) :
    IssuesOnEntry s t :=
  ⟨[], by simp [hout], .quiet h⟩

/-- Issuing a read and entering the state that waits for it. -/
theorem issuesOnEntry_read {s : State} {r : RemoteReg} {e : EngineState} (hne : e ≠ s.state)
    (he : outstanding e = some (.read, r)) : IssuesOnEntry s ((issueRead r s).goto e) :=
  ⟨[.busReq (readReq s r)], rfl, .read r hne he⟩

/-- Issuing a write and entering the state that waits for it. -/
theorem issuesOnEntry_write {s : State} {r : RemoteReg} {e : EngineState} {v : Word} (hne : e ≠ s.state)
    (he : outstanding e = some (.write, r)) : IssuesOnEntry s ((issueWrite r v s).goto e) :=
  ⟨[.busReq (writeReq s r v)], rfl, .write r v hne he⟩

/-- A notification is no bus request. -/
theorem filter_isBusReq_notification (s : State) : (notification s).toList.filter isBusReq = [] := by
  unfold notification
  split
  · rfl
  · split <;> rfl

/-- ServiceStart outside `ReadInputForServicing` issues the read of the input register (R232). -/
theorem issuesOnEntry_serviceStart {s : State} (h : s.state ≠ .readInputForServicing) :
    IssuesOnEntry s (serviceStart s) :=
  (issuesOnEntry_read (Ne.symm h) rfl).of_samePort ⟨rfl, rfl, rfl⟩ rfl

/-- Accepting a sequence command in `Idle`, its masks loaded, issues its first read (R123). -/
theorem issuesOnEntry_startSequence {k : Kind} {g : Option Tag} {r : RemoteReg} {e : EngineState} {s u : State}
    (hp : SamePort u s) (hout : u.out = s.out) (hidle : s.state = .idle) (he : outstanding e = some (.read, r)) :
    IssuesOnEntry s (startSequence k g r e u) := by
  have hne : e ≠ s.state := by
    rintro rfl
    simp [hidle, outstanding] at he
  exact ⟨[.busReq (readReq u r)], by simp [hout], (EntryRequests.read r (hp.state ▸ hne) he).of_samePort hp⟩

/-! ## The events -/

/-- A decoded command issues what its acceptance step issues; a rejection issues nothing (R122). -/
theorem issuesOnEntry_command {f : State → State} (hf : ∀ u : State, u.state = .idle → IssuesOnEntry u (f u))
    (pinOk : Bool) (s : State) : IssuesOnEntry s (command pinOk f s) := by
  have stay : IssuesOnEntry s s := issuesOnEntry_quiet rfl (.inl rfl)
  obtain ⟨_, heq⟩ | ⟨_, _, heq⟩ | ⟨_, hidle, heq⟩ := command_cases pinOk f s <;> rw [heq]
  · exact stay.emit rfl
  · exact stay.emit rfl
  · exact (hf (s.emit (.resp accepted)) hidle).of_earlier (o := [.resp accepted]) ⟨rfl, rfl, rfl⟩ rfl rfl

/-- Every command: the seven sequence commands start their sequence, SETIH and CLRIH issue nothing. -/
theorem issuesOnEntry_exec {i : Instr} {s t : State} (h : exec i s = .next t) : IssuesOnEntry s t := by
  cases i <;> cases h <;> refine issuesOnEntry_command (fun u hidle => ?_) _ s
  case setIH | clrIH => exact issuesOnEntry_quiet rfl (.inl rfl)
  all_goals exact issuesOnEntry_startSequence ⟨rfl, rfl, rfl⟩ rfl hidle rfl

theorem issuesOnEntry_cmdStep {w : Command} {s t : State} (h : cmdStep w s = .next t) : IssuesOnEntry s t := by
  cases hw : decode w with
  | error e =>
    rw [cmdStep_error hw] at h
    cases h
    exact (issuesOnEntry_quiet rfl (.inl rfl) : IssuesOnEntry s s).emit rfl
  | ok i =>
    rw [cmdStep_ok hw] at h
    exact issuesOnEntry_exec h

/-- A successful completion issues the next operation of the sequence, or none at its end (R124). -/
theorem issuesOnEntry_complete {rdata : Word} {s : State} (h : busOutstanding s.state = true) :
    IssuesOnEntry s (complete rdata s) := by
  obtain ⟨n, _, ⟨v, heq, _⟩ | ⟨r, e, heq, he, hne⟩ | ⟨r, e, v, heq, he, hne⟩⟩ := complete_cases rdata s h <;> rw [heq]
  · exact issuesOnEntry_quiet rfl (.inr rfl)
  · exact (issuesOnEntry_read hne he).of_samePort ⟨rfl, rfl, rfl⟩ rfl
  · exact (issuesOnEntry_write hne he).of_samePort ⟨rfl, rfl, rfl⟩ rfl

theorem issuesOnEntry_busDoneStep (ok : Bool) (rdata : Word) (s : State) : IssuesOnEntry s (busDoneStep ok rdata s) := by
  obtain ⟨_, heq⟩ | ⟨_, _, heq⟩ | ⟨hbus, _, heq⟩ := busDoneStep_cases ok rdata s <;> rw [heq]
  · exact issuesOnEntry_quiet rfl (.inl rfl)
  · exact issuesOnEntry_quiet rfl (.inr rfl)
  · exact issuesOnEntry_complete hbus

theorem issuesOnEntry_irqEdgeStep (s : State) : IssuesOnEntry s (irqEdgeStep s) := by
  obtain ⟨_, heq⟩ | ⟨hidle, heq⟩ := irqEdgeStep_cases s <;> rw [heq]
  · exact issuesOnEntry_quiet rfl (.inl rfl)
  · exact issuesOnEntry_serviceStart (by simp [hidle])

theorem issuesOnEntry_pollTickStep (s : State) : IssuesOnEntry s (pollTickStep s) := by
  obtain ⟨_, hidle, _, heq⟩ | ⟨_, heq⟩ := pollTickStep_cases s <;> rw [heq]
  · exact issuesOnEntry_serviceStart (by simp [hidle])
  · exact issuesOnEntry_quiet rfl (.inl rfl)

/-- `Notify` issues an operation only where it goes on into a service; the notification comes before it (R126). -/
theorem issuesOnEntry_notifyStep (s : State) : IssuesOnEntry s (notifyStep s) := by
  obtain ⟨_, heq⟩ | ⟨hdone, _, _, heq⟩ | ⟨_, _, heq⟩ := notifyStep_cases s <;> rw [heq]
  · exact issuesOnEntry_quiet rfl (.inl rfl)
  · refine ⟨(notification s).toList ++ [.busReq (readReq s .input)], by simp [readReq], ?_⟩
    rw [List.filter_append, filter_isBusReq_notification]
    exact .read .input (by simp [hdone]) rfl
  · exact ⟨(notification s).toList, rfl, filter_isBusReq_notification s ▸ .quiet (.inr rfl)⟩

/-- A SET or CALLBACK that answers changes the Builder alone. -/
theorem builderOpStep_next {n : Nat} {op : BuilderOp} {s t : State} (h : builderOpStep n op s = .next t) :
    ∃ b, findBuilder n s = .ok b ∧ t = { s with builders := s.builders.set n (applyOp b op) } := by
  unfold builderOpStep at h
  cases hb : findBuilder n s with
  | error f => simp [hb] at h
  | ok b => exact ⟨b, rfl, by simpa [hb] using h.symm⟩

/-- A COMMIT that answers marks the Builder finished, runs the Builder's command if there is one, and reports (R208). -/
theorem builderCommitStep_next {n : Nat} {s t : State} (h : builderCommitStep n s = .next t) :
    ∃ b, findBuilder n s = .ok b ∧
      ((builderCommand b = none ∧
          t = State.emit { s with builders := s.builders.set n { b with finished := true } } (.commitResult n none)) ∨
       (∃ i u, builderCommand b = some i ∧
          cmdStep (encode i) { s with builders := s.builders.set n { b with finished := true } } = .next u ∧
          t = u.emit (.commitResult n (some (verdict true s))))) := by
  unfold builderCommitStep at h
  cases hb : findBuilder n s with
  | error f => simp [hb] at h
  | ok b =>
    refine ⟨b, rfl, ?_⟩
    simp only [hb] at h
    cases hi : builderCommand b with
    | none => exact .inl ⟨rfl, by simpa [hi] using h.symm⟩
    | some i =>
      simp only [hi] at h
      split at h
      · exact .inr ⟨i, _, rfl, ‹_›, by simpa using h.symm⟩
      · cases h
      · cases h

theorem issuesOnEntry_builderCommitStep {n : Nat} {s t : State} (h : builderCommitStep n s = .next t) :
    IssuesOnEntry s t := by
  obtain ⟨b, _, ⟨_, rfl⟩ | ⟨i, u, _, hu, rfl⟩⟩ := builderCommitStep_next h
  · exact IssuesOnEntry.emit (issuesOnEntry_quiet rfl (.inl rfl)) rfl
  · exact IssuesOnEntry.emit ((issuesOnEntry_cmdStep hu).of_samePort ⟨rfl, rfl, rfl⟩ rfl) rfl

/-- Every event, processed to its end. -/
theorem issuesOnEntry_handle {e : Event} {s t : State} (h : handle e s = .next t) : IssuesOnEntry s t := by
  cases e with
  | cmd w => exact issuesOnEntry_cmdStep h
  | busDone ok rdata => cases h; exact issuesOnEntry_busDoneStep ok rdata s
  | irqEdge => cases h; exact issuesOnEntry_irqEdgeStep s
  | notify => cases h; exact issuesOnEntry_notifyStep s
  | pollTick => cases h; exact issuesOnEntry_pollTickStep s
  | reset => cases h; exact issuesOnEntry_quiet rfl (.inr rfl)
  | builderNew => cases h; exact issuesOnEntry_quiet rfl (.inl rfl)
  | builderOp n op =>
    obtain ⟨b, _, rfl⟩ := builderOpStep_next h
    exact issuesOnEntry_quiet rfl (.inl rfl)
  | builderCommit n => exact issuesOnEntry_builderCommitStep h

/-- R67 for every step: the requests it puts out are those of entering the state it ends in. -/
theorem issuesOnEntry_step {s t : State} (h : step s = .next t) : IssuesOnEntry s t := by
  cases hin : s.input with
  | nil =>
    rw [step_nil hin] at h
    cases h
    exact issuesOnEntry_notifyStep s
  | cons e rest =>
    rw [step_cons hin] at h
    exact (issuesOnEntry_handle h).of_samePort ⟨rfl, rfl, rfl⟩ rfl

/-- Settles O40: by the case of `EntryRequests` that the step falls under. -/
theorem busRequestsAreTheStatesOwn : Obligations.BusRequestsAreTheStatesOwn := by
  intro s t h
  obtain ⟨o, hout, hreq⟩ := issuesOnEntry_step h
  have hnew : newOutputs s t = o := by simp [newOutputs, hout]
  rw [hnew]
  exact ⟨hreq.eq_nil, fun op r hne he => hreq.eq_singleton hne he⟩

end Sys2Proof.Machine
end

section
/-! The word of R91's formula is its fields side by side, and what the decoder answers for it (spec/30_encoding.md R91, R92,
R95). -/

namespace Sys2Proof

section
variable (op : BitVec 4) (zero : BitVec 3) (cbv : BitVec 1) (tag : Tag) (c b a : Word)

/-- Putting a field below the others shifts them up by its width, once for each field (R91). -/
theorem packFields_eq_shifts :
    packFields op zero cbv tag c b a =
      (((((op.setWidth 64 <<< 3 ||| zero.setWidth 64) <<< 1 ||| cbv.setWidth 64) <<< 8 ||| tag.setWidth 64) <<< 16 |||
        c.setWidth 64) <<< 16 ||| b.setWidth 64) <<< 16 ||| a.setWidth 64 := by
  simp only [← BitVec.setWidth_append_eq_shiftLeft_setWidth_or]
  exact (BitVec.setWidth_eq _).symm

/-- R91's formula shifts each field by the widths of all the fields below it. -/
theorem formulaWord_eq_packFields :
    Machine.formulaWord op zero cbv tag c b a = packFields op zero cbv tag c b a := by
  rw [packFields_eq_shifts]
  simp only [BitVec.shiftLeft_or_distrib, ← BitVec.shiftLeft_add]
  rfl

end

/-- The `zero` field is checked first, whatever the opcode (R95 (b)). -/
theorem decode_of_zeroField_ne {w : Command} (h : zeroField w ≠ 0#3) :
    decode w = .error (.reservedBits (zeroField w)) := if_pos h

/-- An opcode outside the nine rows of the opcode map is reserved (R92, R95 (a)). -/
theorem decode_of_reserved_opField {w : Command} (hz : zeroField w = 0#3)
    (hop : opField w = 0x0#4 ∨ 0xA ≤ (opField w).toNat) : decode w = .error (.reservedOpcode (opField w)) := by
  rw [decode, if_neg (not_not.mpr hz)]
  obtain hop | hop := hop
  · simp [hop]
  · split
    case h_10 => rfl
    all_goals omega

/-- Settles O2: the formula's word is its fields side by side, and each field is read back from there. -/
theorem decodeReadsTheFieldsOfTheFormula : Obligations.DecodeReadsTheFieldsOfTheFormula := by
  intro zero cbv tag c b a target
  simp only [formulaWord_eq_packFields]
  refine ⟨?mode, ?write, ?toggle, ?bulkWrite, ?bulkToggle, ?bulkSetInt, ?bulkRead, ?setIH, ?clrIH, ?reservedOpcode,
    ?reservedBits⟩
  case reservedOpcode =>
    intro op hop
    have h := decode_of_reserved_opField (w := packFields op 0#3 cbv tag c b a) (zeroField_packFields ..)
      (by rwa [opField_packFields])
    rwa [opField_packFields] at h
  case reservedBits =>
    intro op hz
    have h := decode_of_zeroField_ne (w := packFields op zero cbv tag c b a) (by rwa [zeroField_packFields])
    rwa [zeroField_packFields] at h
  all_goals -- a row of the opcode map: its operands are the fields read back
    simp only [decode, opField_packFields, zeroField_packFields, cbvField_packFields, tagField_packFields,
      cField_packFields, bField_packFields, aField_packFields]
    rfl

end Sys2Proof
end

section
/-! The merge rule and the toggle steps' exclusive or, bit by bit (spec/40_engine_common.md R127). -/

namespace Sys2Proof.Machine

/-- A bit of the merged value comes from `desired` where `pins` is set and from `old` elsewhere. -/
theorem getLsbD_merge (old pins desired : Word) (i : Nat) :
    (merge old pins desired).getLsbD i = if pins.getLsbD i then desired.getLsbD i else old.getLsbD i := by
  by_cases hi : i < 16
  · cases h : pins[i] <;> simp [merge, h, hi]
  · simp [BitVec.getLsbD_of_ge, Nat.le_of_not_lt hi]

/-- A bit of the toggled value is inverted where `pins` is set and kept elsewhere (R159). -/
theorem getLsbD_toggleBits (old pins : Word) (i : Nat) :
    (toggleBits old pins).getLsbD i = if pins.getLsbD i then !old.getLsbD i else old.getLsbD i := by
  cases h : pins.getLsbD i <;> simp [toggleBits, h]

/-- A value is the merged one if it takes each bit from the right side. -/
theorem merge_eq_of_bits {old pins desired v : Word}
    (h : ∀ i < 16, (if pins.getLsbD i then desired.getLsbD i else old.getLsbD i) = v.getLsbD i) :
    merge old pins desired = v :=
  BitVec.eq_of_getLsbD_eq fun i hi => (getLsbD_merge old pins desired i).trans (h i hi)

/-- No pin under control: the old value stays. -/
theorem merge_no_pins (old desired : Word) : merge old 0x0000#16 desired = old :=
  merge_eq_of_bits fun i _ => by simp

/-- Every pin under control: the desired value is taken whole. -/
theorem merge_all_pins (old desired : Word) : merge old 0xFFFF#16 desired = desired :=
  merge_eq_of_bits fun i hi => by
    rw [show (0xFFFF#16 : Word) = BitVec.allOnes 16 from rfl, BitVec.getLsbD_allOnes]
    simp [hi]

/-- Desiring every controlled pin sets it. -/
theorem merge_set (old pins : Word) : merge old pins pins = old ||| pins :=
  merge_eq_of_bits fun i _ => by cases h : pins.getLsbD i <;> simp [h]

/-- Desiring no pin clears the controlled ones. -/
theorem merge_clear (old pins : Word) : merge old pins 0x0000#16 = old &&& ~~~pins :=
  merge_eq_of_bits fun i hi => by cases h : pins[i] <;> simp [h, hi]

/-- Desired bits of pins not under control have no effect. -/
theorem merge_desired_and_pins (old pins desired : Word) :
    merge old pins desired = merge old pins (desired &&& pins) :=
  merge_eq_of_bits fun i _ => by cases h : pins.getLsbD i <;> simp [getLsbD_merge, h]

/-- Merging twice is merging once. -/
theorem merge_idem (old pins desired : Word) :
    merge (merge old pins desired) pins desired = merge old pins desired :=
  merge_eq_of_bits fun i _ => by cases h : pins.getLsbD i <;> simp [getLsbD_merge, h]

/-- Settles O19: the two formulas as defined, and each law by what the merged and the toggled value hold at a bit. -/
theorem mergeRuleAndLaws : Obligations.MergeRuleAndLaws := by
  intro old pins desired
  refine ⟨rfl, fun i _ h => ?mergeOutside, fun i _ h => ?mergeInside, merge_no_pins old desired,
    merge_all_pins old desired, merge_set old pins, merge_clear old pins, merge_desired_and_pins old pins desired,
    merge_idem old pins desired, rfl, fun i _ h => ?toggleOutside, fun i _ h => ?toggleInside⟩
  case mergeOutside | mergeInside => simp [getLsbD_merge, h]
  case toggleOutside | toggleInside => simp [getLsbD_toggleBits, h]

end Sys2Proof.Machine
end

section
/-! The acceptance of a sequence command (spec/40_engine_common.md R123) by the tables of R24 and R123. -/

namespace Sys2Proof.Machine

/-- MODE's desired register value, as R24's table gives it. -/
theorem desiredDirection_eq_ite (dir : Direction) (pins : Word) :
    desiredDirection dir pins = if dir = .input then pins else 0#16 := by
  cases dir <;> rfl

/-- WRITE's desired register value, as R24's table gives it. -/
theorem desiredLevel_eq_ite (level : Level) (pins : Word) :
    desiredLevel level pins = if level = .high then pins else 0#16 := by
  cases level <;> rfl

/-- R24's table: the three pending registers as a command loads them. -/
def loadPending (i : Instr) (s : State) : State :=
  { s with pins := loadedPins i s.pins, pa := loadedPa i s.pa, pb := loadedPb i s.pb }

/-- A legal sequence command is the checks of R122 and then, by the tables, the loading of the pending registers and the start
of its kind's sequence. -/
theorem exec_by_tables {i : Instr} {k : Kind} (hk : sequenceKind i = some k) (hwf : i.wellFormed = true) (s : State) :
    exec i s = .next (command true
      (fun t => startSequence k (completionTarget i) (firstRead k) (firstState k) (loadPending i t)) s) := by
  cases i <;> cases hk
  case bulkWrite | bulkToggle | bulkSetInt | bulkRead => rfl
  case mode pin _ _ | write pin _ _ | toggle pin _ =>
    have hlt : pin.toNat < 16 := (pinInRange_iff pin).mp hwf
    simp only [exec, execMode, execWrite, execToggle, show pinInRange pin = true from hwf, pinMask_of_lt hlt,
      desiredDirection_eq_ite, desiredLevel_eq_ite]
    rfl

/-- Settles O18: in `Idle` the checks pass, and the response and the first read are the outputs. -/
theorem sequenceAcceptanceByTheTables : Obligations.SequenceAcceptanceByTheTables := by
  intro i k s hk hwf hidle
  rw [exec_by_tables hk hwf, command_idle _ hidle]
  simp only [startSequence, loadPending, issueRead, State.emit, State.goto, List.append_assoc]
  rfl

end Sys2Proof.Machine
end

section
/-! The checks on a command word (spec/40_engine_common.md R122): the word's own fields decide what the decoder and the checks
of the decoded command decide. -/

namespace Sys2Proof.Machine

/-! ## The decoder by the word's fields -/

/-- The word selects no row of the opcode table (R95 (a), (b)). -/
def SelectsNoRow (w : Command) : Prop := (opField w = 0x0#4 ∨ 0xA ≤ (opField w).toNat) ∨ zeroField w ≠ 0#3

/-- Of a word that selects a row: it is a single-pin command, and its pin is 16 or more (R95 (c)). -/
def NamesInvalidPin (w : Command) : Prop := (opField w).toNat ≤ 3 ∧ 16 ≤ (aField w).toNat

/-- A word without a row is no command. -/
theorem decode_of_selectsNoRow {w : Command} (h : SelectsNoRow w) : ∃ e, decode w = .error e := by
  by_cases hz : zeroField w = 0#3
  · exact ⟨_, decode_of_reserved_opField hz (h.resolve_right (not_not.mpr hz))⟩
  · exact ⟨_, decode_of_zeroField_ne hz⟩

/-- A word with a row is a command, legal unless it names an invalid pin. -/
theorem decode_of_selectsRow {w : Command} (h : ¬SelectsNoRow w) :
    ∃ i, decode w = .ok i ∧ (i.wellFormed = true ↔ ¬NamesInvalidPin w) := by
  obtain ⟨⟨hne, hle⟩, hz⟩ : (opField w ≠ 0x0#4 ∧ ¬0xA ≤ (opField w).toNat) ∧ zeroField w = 0#3 := by
    simpa only [SelectsNoRow, not_or, not_not] using h
  have hpos : 1 ≤ (opField w).toNat := Nat.pos_of_ne_zero fun h0 => hne (BitVec.eq_of_toNat_eq h0)
  have hlt : (opField w).toNat < 0xA := Nat.lt_of_not_le hle
  rw [decode, if_neg (not_not.mpr hz)]
  interval_cases hop : (opField w).toNat
  all_goals
    refine ⟨_, rfl, ?_⟩
    simp [Instr.wellFormed, pinInRange, NamesInvalidPin, hop]

/-! ## The checks by the decoder's answer -/

/-- Check 1: a word without a row is an invalid command. -/
theorem checksOfR122_of_selectsNoRow {w : Command} (h : SelectsNoRow w) (s : State) :
    checksOfR122 w s = rejected .invalidCmd := if_pos h

/-- Checks 2 and 3: on a word with a row they are the decoded command's own. -/
theorem checksOfR122_of_selectsRow {w : Command} {i : Instr} (h : ¬SelectsNoRow w)
    (hwf : i.wellFormed = true ↔ ¬NamesInvalidPin w) (s : State) :
    checksOfR122 w s = verdict i.wellFormed s := by
  refine (if_neg h).trans ?_
  by_cases hpin : NamesInvalidPin w
  · have hfalse : i.wellFormed = false := Bool.eq_false_iff.mpr fun ht => hwf.mp ht hpin
    rw [hfalse]
    exact if_pos hpin
  · rw [hwf.mpr hpin]
    refine (if_neg hpin).trans ?_
    by_cases hidle : s.state = .idle <;> simp [verdict, busy, hidle, rejected, accepted]

/-- The checks pass exactly for a legal command in `Idle`. -/
theorem verdict_accepted_iff {pinOk : Bool} {s : State} :
    (verdict pinOk s).accepted = true ↔ pinOk = true ∧ s.state = .idle := by
  cases pinOk <;> by_cases hidle : s.state = .idle <;> simp [verdict, busy, hidle, rejected, accepted]

/-- A command that fails a check gives that check's response and does nothing else (R122). -/
theorem command_of_not_accepted {pinOk : Bool} {s : State} (f : State → State)
    (h : (verdict pinOk s).accepted = false) :
    command pinOk f s = s.emit (.resp (verdict pinOk s)) := by
  have hv : verdict pinOk s = rejected (verdict pinOk s).reason := by
    rw [rejected, ← h]
  simp [command, h, reject, ← hv]

/-! ## The step -/

/-- A command word at the head of the events goes through the command port. -/
theorem step_cmd {s : State} {w : Command} {rest : List Event} (h : s.input = .cmd w :: rest) :
    step s = cmdStep w { s with input := rest } := step_cons h

/-- Outputs without a response among them, as the list test says it. -/
theorem all_not_isResponse {o : List Output} (h : ∀ r, Output.resp r ∉ o) :
    o.all (fun x => !isResponse x) = true := by
  rw [List.all_eq_true]
  intro x hx
  cases x with
  | resp r => exact absurd hx (h r)
  | busReq | done | irqNotify | commitResult => rfl

/-- Settles O6: by whether the word selects a row; if it does, by whether the decoded command passes its checks. -/
theorem commandChecksInOrder : Obligations.CommandChecksInOrder := by
  intro s w rest hin
  by_cases hrow : SelectsNoRow w
  · obtain ⟨e, hdec⟩ := decode_of_selectsNoRow hrow
    rw [checksOfR122_of_selectsNoRow hrow, step_cmd hin, cmdStep_error hdec]
    exact ⟨fun _ => rfl, nofun⟩
  · obtain ⟨i, hdec, hwf⟩ := decode_of_selectsRow hrow
    obtain ⟨f, hexec, hf⟩ := exec_is_command i { s with input := rest }
    rw [checksOfR122_of_selectsRow hrow hwf, step_cmd hin, cmdStep_ok hdec, hexec]
    refine ⟨fun hrej => congrArg _ (command_of_not_accepted f hrej), fun hacc => ?_⟩
    obtain ⟨hlegal, hidle⟩ := verdict_accepted_iff.mp hacc
    obtain ⟨o, hout, hresp⟩ := hf (State.emit { s with input := rest } (.resp accepted))
    have hcmd : command i.wellFormed f { s with input := rest } =
        f (State.emit { s with input := rest } (.resp accepted)) := by
      rw [hlegal]
      exact command_idle f hidle
    refine ⟨i, _, o, hdec, hlegal, hexec.symm, congrArg _ hcmd, ?_, all_not_isResponse hresp⟩
    exact hout.trans (List.append_assoc ..)

end Sys2Proof.Machine
end

section
/-! A failed bus operation and the `Notify` after it (spec/40_engine_common.md R125, R126). -/

namespace Sys2Proof.Machine

/-! ## `Notify` in `SignalDone` -/

/-- The notification of `Notify`, told by the pending request (R126). -/
theorem notification_toList (s : State) :
    (notification s).toList =
      if isSequenceKind s.kind = true ∧ s.cbValid = true then
        [.done { tag := s.cbTag, status := s.resStatus, value := s.resValue }]
      else if s.kind = .service ∧ s.ihValid = true then [.irqNotify (serviceReport s)]
      else [] := by
  simp only [notification, Bool.and_eq_true, decide_eq_true_eq]
  split
  · rfl
  · split <;> rfl

/-- Without an interrupt to serve, `Notify` delivers and returns to `Idle`. -/
theorem notifyStep_eq_deliver {s : State} (h : s.state = .signalDone)
    (hirq : ¬(s.irqPending = true ∧ s.cfg.policy = .immediate)) : notifyStep s = deliver s := by
  simp [notifyStep, notifyDue, h, hirq]

/-- With a latched interrupt under IMMEDIATE, `Notify` delivers and starts the service. -/
theorem notifyStep_eq_serviceStart {s : State} (h : s.state = .signalDone)
    (hirq : s.irqPending = true ∧ s.cfg.policy = .immediate) : notifyStep s = serviceStart (deliver s) := by
  simp [notifyStep, notifyDue, h, hirq]

/-! ## The failure -/

/-- What is reported of a failed sequence: to the target of a command, or without readings to the handler of a service. -/
def failureReport (s : State) : List Output :=
  if isSequenceKind s.kind = true ∧ s.cbValid = true then
    [.done { tag := s.cbTag, status := .busFail, value := 0x0000#16 }]
  else if s.kind = .service ∧ s.ihValid = true then
    [.irqNotify { tag := s.ihTag, status := .busFail, changed := 0x0000#16, values := 0x0000#16 }]
  else []

/-- The notification after a failure. -/
theorem notification_busFailure (s : State) : (notification (busFailure s)).toList = failureReport s :=
  notification_toList (busFailure s)

/-- Delivering after a failure: the report, and back to `Idle`. -/
theorem deliver_busFailure (s : State) :
    deliver (busFailure s) = { s with
      resStatus := .busFail, resValue := 0x0000#16, cbValid := false, kind := .none, state := .idle
      out := s.out ++ failureReport s } := by
  rw [deliver, notification_busFailure]
  rfl

/-- A failed completion of an outstanding operation stages the failure, whatever its data (R125). -/
theorem step_busDone_false {s : State} {rdata : Word} {rest : List Event} (hbus : busOutstanding s.state = true)
    (h : s.input = .busDone false rdata :: rest) : step s = .next (busFailure { s with input := rest }) := by
  rw [step_cons h]
  simp [handle, busDoneStep, hbus]

/-- A failed completion and then `Notify`: two steps. -/
theorem run_busDone_false_notify {s : State} {rdata : Word} {rest : List Event} (hbus : busOutstanding s.state = true)
    (h : s.input = .busDone false rdata :: .notify :: rest) :
    Sys2Proof.core.run 2 s = .next (notifyStep (busFailure { s with input := rest })) := by
  have hnotify : step (busFailure { s with input := .notify :: rest }) =
      .next (notifyStep (busFailure { s with input := rest })) :=
    step_cons (s := busFailure { s with input := .notify :: rest }) rfl
  rw [run_succ (step_busDone_false hbus h), run_succ hnotify, run_zero]

/-- Settles O26: the failed completion's own step, then the two ways `Notify` can go on. -/
theorem busFailureAbortsTheSequence : Obligations.BusFailureAbortsTheSequence := by
  intro s rdata rest hbus reported
  have hdeliver := deliver_busFailure { s with input := rest }
  have hdone : (busFailure { s with input := rest }).state = .signalDone := rfl
  refine ⟨step_busDone_false hbus, fun hin hirq => ?deliver, fun hin hirq => ?serve⟩
  case deliver =>
    have hnotify := (notifyStep_eq_deliver hdone hirq).trans hdeliver
    exact (run_busDone_false_notify hbus hin).trans (congrArg _ hnotify)
  case serve =>
    have hnotify := (notifyStep_eq_serviceStart hdone hirq).trans (congrArg serviceStart hdeliver)
    exact (run_busDone_false_notify hbus hin).trans (congrArg _ hnotify)

end Sys2Proof.Machine
end

section
/-! Successful completions: the steps that write back what was read, and the last write of every sequence
(spec/41_single_pin.md R151 to R160, spec/42_bulk.md R174, R184). -/

namespace Sys2Proof.Machine

/-- A successful completion of an outstanding operation goes where the completion rule of the state says (R124). -/
theorem step_busDone_true {s t : State} {rdata : Word} {rest : List Event} (hbus : busOutstanding s.state = true)
    (hin : s.input = .busDone true rdata :: rest) (ht : complete rdata { s with input := rest } = t) :
    step s = .next t := by
  rw [step_cons hin, ← ht]
  simp [handle, busDoneStep, hbus]

/-! ## The completion rule of a state -/

section
variable {s : State} {rdata : Word}

/-- MODE, over `CFG` (R151). -/
theorem complete_readDirection (h : s.state = .readDirection) :
    complete rdata s = writeIfChanged .config .writeDirection rdata s := by
  simp [complete, completeReadDirection, h]

/-- WRITE, over `OUT` (R155). -/
theorem complete_readOutputForWrite (h : s.state = .readOutputForWrite) :
    complete rdata s = writeIfChanged .output .writeOutputForWrite rdata s := by
  simp [complete, completeReadOutputForWrite, h]

/-- TOGGLE and BULKTOGGLE alike (R159). -/
theorem complete_readOutputForToggle (h : s.state = .readOutputForToggle) :
    complete rdata s = (issueWrite .output (toggleBits rdata s.pins) s).goto .writeOutputForToggle := by
  simp [complete, completeReadOutputForToggle, h]

end

/-- The states that wait for the last write of a sequence (R152, R156, R160, R174, R184). -/
def IsLastWrite (e : EngineState) : Prop :=
  e = .writeDirection ∨ e = .writeOutputForWrite ∨ e = .writeOutputForToggle ∨ e = .writeOutputForBulkSet ∨
    e = .writeInterruptMask

/-- A write is outstanding in each of them (R21). -/
theorem busOutstanding_of_isLastWrite {e : EngineState} (h : IsLastWrite e) : busOutstanding e = true := by
  obtain rfl | rfl | rfl | rfl | rfl := h <;> rfl

/-- The five rules are one: stage `OK` with no value, whatever was read. -/
theorem complete_lastWrite {s : State} {rdata : Word} (h : IsLastWrite s.state) :
    complete rdata s = stage .ok 0#16 s := by
  obtain h | h | h | h | h := h <;>
    simp [complete, h, completeWriteDirection, completeWriteOutputForWrite, completeWriteOutputForToggle,
      completeWriteOutputForBulkSet, completeWriteInterruptMask]

/-! ## Writing back only what changed (R151, R155) -/

section
variable {r : RemoteReg} {e : EngineState} {s : State} {rdata : Word}

/-- The register holds the desired bits already: nothing is issued. -/
theorem writeIfChanged_of_eq (h : merge rdata s.pins s.pa = rdata) :
    writeIfChanged r e rdata s = stage .ok 0#16 s := if_pos h

/-- The register is to change: the merged value is written. -/
theorem writeIfChanged_of_ne (h : merge rdata s.pins s.pa ≠ rdata) :
    writeIfChanged r e rdata s = (issueWrite r (merge rdata s.pins s.pa) s).goto e := if_neg h

end

/-- With one pin under control, merging keeps every other bit (R151). -/
theorem getLsbD_merge_one_pin (old desired : Word) {p j : Nat} (hj : j ≠ p) :
    (merge old (1#16 <<< p) desired).getLsbD j = old.getLsbD j := by
  have hpin : (1#16 <<< p).getLsbD j = false := by
    rw [← BitVec.twoPow_eq, BitVec.getLsbD_twoPow, decide_eq_false hj.symm, Bool.and_false]
  simp [getLsbD_merge, hpin]

/-! ## The steps -/

/-- Settles O20: the completion rule of each of the two states, by whether the merged value differs from the one read. -/
theorem modeAndWriteReadCompletions : Obligations.ModeAndWriteReadCompletions := by
  intro s rdata rest hin new
  refine ⟨fun hst hsame => ?unchanged, fun hst hdiff => ?mode, fun hst hdiff => ?write, fun p _ hpins j _ hj => ?onePin⟩
  case unchanged =>
    obtain hst | hst := hst
    · exact step_busDone_true (hst ▸ rfl) hin (Eq.trans (complete_readDirection hst) (writeIfChanged_of_eq hsame))
    · exact step_busDone_true (hst ▸ rfl) hin (Eq.trans (complete_readOutputForWrite hst) (writeIfChanged_of_eq hsame))
  case mode =>
    exact step_busDone_true (hst ▸ rfl) hin (Eq.trans (complete_readDirection hst) (writeIfChanged_of_ne hdiff))
  case write =>
    exact step_busDone_true (hst ▸ rfl) hin (Eq.trans (complete_readOutputForWrite hst) (writeIfChanged_of_ne hdiff))
  case onePin =>
    have hnew : new = merge rdata (1#16 <<< p) s.pa := hpins ▸ rfl
    rw [hnew, getLsbD_merge_one_pin rdata s.pa hj]

/-- Settles O21: the completion rule of the state, which looks at neither the kind nor the mask. -/
theorem readOutputForToggleCompletion : Obligations.ReadOutputForToggleCompletion := by
  intro s rdata rest hst hin
  exact step_busDone_true (hst ▸ rfl) hin (complete_readOutputForToggle hst)

/-- Settles O24: the five states share one completion rule. -/
theorem lastWriteCompletions : Obligations.LastWriteCompletions := by
  intro s rdata rest hin hlast
  exact step_busDone_true (busOutstanding_of_isLastWrite hlast) hin (complete_lastWrite hlast)

end Sys2Proof.Machine
end

section
/-! The completions of BULKWRITE and BULKSETINT up to the last write: read, merge and write, then read the second register
(spec/42_bulk.md R171 to R173, R181 to R183). -/

namespace Sys2Proof.Machine

/-! ## The completion rule of a state -/

section
variable {s : State} {rdata : Word}

/-- BULKWRITE, over `CFG`: always a write (R171). -/
theorem complete_readDirectionForBulkSet (h : s.state = .readDirectionForBulkSet) :
    complete rdata s = (issueWrite .config (merge rdata s.pins s.pa) s).goto .writeDirectionForBulkSet := by
  simp [complete, completeReadDirectionForBulkSet, h]

/-- BULKWRITE goes on to `OUT` (R172). -/
theorem complete_writeDirectionForBulkSet (h : s.state = .writeDirectionForBulkSet) :
    complete rdata s = (issueRead .output s).goto .readOutputForBulkSet := by
  simp [complete, completeWriteDirectionForBulkSet, h]

/-- BULKWRITE, over `OUT`: always a write (R173). -/
theorem complete_readOutputForBulkSet (h : s.state = .readOutputForBulkSet) :
    complete rdata s = (issueWrite .output (merge rdata s.pins s.pb) s).goto .writeOutputForBulkSet := by
  simp [complete, completeReadOutputForBulkSet, h]

/-- BULKSETINT, over `CFG`: always a write (R181). -/
theorem complete_readInterruptDirection (h : s.state = .readInterruptDirection) :
    complete rdata s = (issueWrite .config (merge rdata s.pins s.pa) s).goto .writeInterruptDirection := by
  simp [complete, completeReadInterruptDirection, h]

/-- BULKSETINT goes on to `IMASK` (R182). -/
theorem complete_writeInterruptDirection (h : s.state = .writeInterruptDirection) :
    complete rdata s = (issueRead .intMask s).goto .readInterruptMask := by
  simp [complete, completeWriteInterruptDirection, h]

/-- BULKSETINT, over `IMASK`: always a write (R183). -/
theorem complete_readInterruptMask (h : s.state = .readInterruptMask) :
    complete rdata s = (issueWrite .intMask (merge rdata s.pins s.pb) s).goto .writeInterruptMask := by
  simp [complete, completeReadInterruptMask, h]

end

/-! ## The steps -/

/-- Settles O22: the completion rule of each of the three states. -/
theorem bulkWriteCompletions : Obligations.BulkWriteCompletions := by
  intro s rdata rest hin
  refine ⟨fun hst => ?readDirection, fun hst => ?writeDirection, fun hst => ?readOutput⟩
  case readDirection => exact step_busDone_true (hst ▸ rfl) hin (complete_readDirectionForBulkSet hst)
  case writeDirection => exact step_busDone_true (hst ▸ rfl) hin (complete_writeDirectionForBulkSet hst)
  case readOutput => exact step_busDone_true (hst ▸ rfl) hin (complete_readOutputForBulkSet hst)

/-- Settles O23: the completion rule of each of the three states; with `pa = pins` the merge only sets bits (R127). -/
theorem bulkSetIntCompletions : Obligations.BulkSetIntCompletions := by
  intro s rdata rest hin
  refine ⟨fun hst => ?readDirection, fun hpa => ?allInputs, fun hst => ?writeDirection, fun hst => ?readMask⟩
  case readDirection => exact step_busDone_true (hst ▸ rfl) hin (complete_readInterruptDirection hst)
  case allInputs =>
    rw [hpa]
    exact merge_set rdata s.pins
  case writeDirection => exact step_busDone_true (hst ▸ rfl) hin (complete_writeInterruptDirection hst)
  case readMask => exact step_busDone_true (hst ▸ rfl) hin (complete_readInterruptMask hst)

end Sys2Proof.Machine
end

section
/-! Whole sequences, run from a command word to the `Notify` that ends them (spec/42_bulk.md R175, R177). -/

namespace Sys2Proof.Machine

/-- A run takes the first step and goes on from there. -/
theorem run_of_step {s t : State} {k : Nat} {r : Host.Outcome State Fault Refusal} (h : step s = .next t)
    (hrun : Sys2Proof.core.run k t = r) : Sys2Proof.core.run (k + 1) s = r := (run_succ h k).trans hrun

/-! ## The first step -/

/-- The decoder undoes the encoder: the fields of each command's word are read back (R91, R92, R99). -/
theorem decode_encode (i : Instr) : decode (encode i) = .ok i := by
  cases i <;>
    simp only [encode, decode, opField_packFields, zeroField_packFields, cbvField_packFields, tagField_packFields,
      cField_packFields, bField_packFields, aField_packFields, targetOf_fields, directionOf_field, levelOf_field] <;>
    rfl

/-- A legal sequence command arriving in `Idle` loads the pending registers by the tables and issues its first read (R123). -/
theorem step_cmd_sequence {i : Instr} {k : Kind} {s : State} {rest : List Event} (hk : sequenceKind i = some k)
    (hwf : i.wellFormed = true) (hidle : s.state = .idle) (hin : s.input = .cmd (encode i) :: rest) :
    step s = .next { s with
      input := rest, state := firstState k, kind := k
      pins := loadedPins i s.pins, pa := loadedPa i s.pa, pb := loadedPb i s.pb
      cbValid := (completionTarget i).isSome, cbTag := (completionTarget i).getD s.cbTag
      out := s.out ++ [.resp accepted, .busReq (readReq s (firstRead k))] } := by
  rw [step_cmd hin, cmdStep_ok (decode_encode i)]
  exact sequenceAcceptanceByTheTables i k { s with input := rest } hk hwf hidle

/-! ## The last steps -/

section
variable {s : State} {target : Option Tag} {c : Tag} {rest : List Event}

/-- What a successful sequence command reports, its completion target loaded as R123 says: `Done{OK}` to it, if any. -/
theorem notification_eq_doneOk (hk : isSequenceKind s.kind = true) (hok : s.resStatus = .ok)
    (hv : s.cbValid = target.isSome) (ht : s.cbTag = target.getD c) :
    (notification s).toList = doneOk target s.resValue := by
  have hservice : s.kind ≠ .service := by
    intro h
    simp [h, isSequenceKind] at hk
  rw [notification_toList, hk, hok, hv, ht]
  cases target with
  | none => simp [doneOk, hservice]
  | some tag => rfl

/-- `Notify` of a successful sequence command, with no interrupt to be served at once: the report, and back to `Idle` (R126). -/
theorem step_notify_ok (hdone : s.state = .signalDone) (hk : isSequenceKind s.kind = true) (hok : s.resStatus = .ok)
    (hv : s.cbValid = target.isSome) (ht : s.cbTag = target.getD c) (hirq : s.irqPending = true → s.cfg.policy = .polled)
    (hin : s.input = .notify :: rest) :
    step s = .next { s with
      input := rest, cbValid := false, kind := .none, state := .idle, out := s.out ++ doneOk target s.resValue } := by
  have hnone : ¬(s.irqPending = true ∧ s.cfg.policy = .immediate) := fun ⟨hp, hi⟩ => nomatch (hirq hp).symm.trans hi
  have hdeliver : notifyStep { s with input := rest } = deliver { s with input := rest } := notifyStep_eq_deliver hdone hnone
  have hreport : (notification { s with input := rest }).toList = doneOk target s.resValue :=
    notification_eq_doneOk hk hok hv ht
  rw [step_cons hin, handle, hdeliver, deliver, hreport]

/-- The successful completion of a sequence's last write, and its `Notify`. -/
theorem run_lastWrite_notify {x : Word} (hlast : IsLastWrite s.state) (hk : isSequenceKind s.kind = true)
    (hv : s.cbValid = target.isSome) (ht : s.cbTag = target.getD c) (hirq : s.irqPending = true → s.cfg.policy = .polled)
    (hin : s.input = .busDone true x :: .notify :: rest) :
    Sys2Proof.core.run 2 s = .next { s with
      input := rest, resStatus := .ok, resValue := 0#16, cbValid := false, kind := .none, state := .idle
      out := s.out ++ doneOk target 0#16 } :=
  run_of_step (lastWriteCompletions s x _ hin hlast)
    (run_of_step (step_notify_ok rfl hk rfl hv ht hirq rfl) (run_zero _))

end

/-! ## The sequences -/

/-- BULKWRITE from its word to its `Notify`: the acceptance, the completions of R171 to R173 in their order, and the last write
(R170 to R175). -/
theorem run_bulkWrite {s : State} {m d v cfg x out y : Word} {target : Option Tag} {rest : List Event}
    (hidle : s.state = .idle) (hirq : s.irqPending = true → s.cfg.policy = .polled)
    (hin : s.input = .cmd (encode (.bulkWrite m d v target)) :: .busDone true cfg :: .busDone true x ::
      .busDone true out :: .busDone true y :: .notify :: rest) :
    Sys2Proof.core.run 6 s = .next { s with
      input := rest, state := .idle, kind := .none, pins := m, pa := ~~~d, pb := v
      cbValid := false, cbTag := target.getD s.cbTag, resStatus := .ok, resValue := 0#16
      out := s.out ++ [.resp accepted, .busReq (readReq s .config), .busReq (writeReq s .config (merge cfg m (~~~d))),
        .busReq (readReq s .output), .busReq (writeReq s .output (merge out m v))] ++ doneOk target 0#16 } := by
  refine run_of_step (step_cmd_sequence (i := .bulkWrite m d v target) rfl rfl hidle hin) ?_
  refine run_of_step (step_busDone_true rfl rfl (complete_readDirectionForBulkSet rfl)) ?_
  refine run_of_step (step_busDone_true rfl rfl (complete_writeDirectionForBulkSet rfl)) ?_
  refine run_of_step (step_busDone_true rfl rfl (complete_readOutputForBulkSet rfl)) ?_
  refine Eq.trans (run_lastWrite_notify (target := target) (.inr (.inr (.inr (.inl rfl)))) rfl rfl rfl hirq rfl) ?_
  simp only [State.goto_out, issueWrite_out, issueRead_out, List.append_assoc]
  rfl

/-- Settles O48: the run, and the bits of the two merged values (R127). -/
theorem bulkWriteSequence : Obligations.BulkWriteSequence := by
  intro s m d v target cfg x out y rest hidle hirq hin
  refine ⟨_, merge cfg m (~~~d), merge out m v, run_bulkWrite hidle hirq hin, rfl, rfl, rfl, fun j hj => ?cfgBit,
    fun j _ => getLsbD_merge ..⟩
  case cfgBit => rw [getLsbD_merge, BitVec.getLsbD_not, decide_eq_true hj, Bool.true_and]

/-- A toggle of the pins of `m`: BULKTOGGLE of the mask, or TOGGLE of the valid pin that the mask stands for. -/
def TogglesMask (i : Instr) (m : Word) (target : Option Tag) : Prop :=
  i = .bulkToggle m target ∨ ∃ pin : Word, pin.toNat < 16 ∧ i = .toggle pin target ∧ m = 1#16 <<< pin.toNat

/-- Both start alike: the mask to `pins`, and the read of `OUT` (R158, R176). -/
theorem step_cmd_toggle {s : State} {i : Instr} {m : Word} {target : Option Tag} {rest : List Event}
    (hi : TogglesMask i m target) (hidle : s.state = .idle) (hin : s.input = .cmd (encode i) :: rest) :
    ∃ k, isSequenceKind k = true ∧ step s = .next { s with
      input := rest, state := .readOutputForToggle, kind := k, pins := m
      cbValid := target.isSome, cbTag := target.getD s.cbTag
      out := s.out ++ [.resp accepted, .busReq (readReq s .output)] } := by
  obtain rfl | ⟨pin, hpin, rfl, rfl⟩ := hi
  · exact ⟨.bulkToggle, rfl, step_cmd_sequence (i := .bulkToggle m target) rfl rfl hidle hin⟩
  · have hlegal : (Instr.toggle pin target).wellFormed = true := (pinInRange_iff pin).mpr hpin
    exact ⟨.toggle, rfl, step_cmd_sequence (i := .toggle pin target) rfl hlegal hidle hin⟩

/-- A toggle from its word to its `Notify`: the common start, the completion of R159, which looks at no kind, and the last
write (R158 to R160, R176, R177). -/
theorem run_toggle {s : State} {i : Instr} {m rdata x : Word} {target : Option Tag} {rest : List Event}
    (hi : TogglesMask i m target) (hidle : s.state = .idle) (hirq : s.irqPending = true → s.cfg.policy = .polled)
    (hin : s.input = .cmd (encode i) :: .busDone true rdata :: .busDone true x :: .notify :: rest) :
    Sys2Proof.core.run 4 s = .next { s with
      input := rest, state := .idle, kind := .none, pins := m
      cbValid := false, cbTag := target.getD s.cbTag, resStatus := .ok, resValue := 0#16
      out := s.out ++ [.resp accepted, .busReq (readReq s .output), .busReq (writeReq s .output (toggleBits rdata m))] ++
        doneOk target 0#16 } := by
  obtain ⟨k, hk, haccept⟩ := step_cmd_toggle hi hidle hin
  refine run_of_step haccept ?_
  refine run_of_step (step_busDone_true rfl rfl (complete_readOutputForToggle rfl)) ?_
  refine Eq.trans (run_lastWrite_notify (target := target) (.inr (.inr (.inl rfl))) hk rfl rfl hirq rfl) ?_
  simp only [State.goto_out, issueWrite_out, List.append_assoc]
  rfl

/-- Settles O49: the run, and the bits of the toggled value (R159). -/
theorem toggleSequences : Obligations.ToggleSequences := by
  intro s i m target rdata x rest hidle hirq hi hin
  exact ⟨_, toggleBits rdata m, run_toggle hi hidle hirq hin, rfl, rfl, rfl, fun j _ => getLsbD_toggleBits ..⟩

end Sys2Proof.Machine
end

section
/-! SET and CALLBACK on a Builder that is not committed (spec/43_handler_builder.md R206, R207). -/

namespace Sys2Proof.Machine

/-! ## The Builder that is called -/

/-- A Builder created and not yet committed may be used (R208). -/
theorem findBuilder_eq_ok {n : Nat} {b : Builder} {s : State} (hb : s.builders[n]? = some b) (hf : b.finished = false) :
    findBuilder n s = .ok b := by
  simp [findBuilder, hb, hf]

/-- A call on such a Builder replaces its accumulator by `applyOp`'s, and consumes the event. -/
theorem step_builderOp {s : State} {n : Nat} {b : Builder} {op : BuilderOp} {rest : List Event}
    (hb : s.builders[n]? = some b) (hf : b.finished = false) (hin : s.input = .builderOp n op :: rest) :
    step s = .next { s with input := rest, builders := s.builders.set n (applyOp b op) } := by
  have hfind : findBuilder n { s with input := rest } = .ok b := findBuilder_eq_ok hb hf
  rw [step_cons hin, handle, builderOpStep, hfind]

/-! ## The accumulator -/

section
variable (b : Builder) {p : Nat} (dir : Direction) (val : Level)

/-- SET of a valid pin: its bit joins the pins, its direction and level bits are replaced, and the Builder is armed (R206). -/
theorem applyOp_set_of_lt (h : p < 16) :
    applyOp b (.set p dir val) = { b with
      pins := b.pins ||| 1#16 <<< p
      dirs := (b.dirs &&& ~~~(1#16 <<< p)) ||| (if dir = .output then 1#16 <<< p else 0#16)
      vals := (b.vals &&& ~~~(1#16 <<< p)) ||| (if val = .high then 1#16 <<< p else 0#16)
      armed := true } := by
  simp [applyOp, h, putBit, oneHot]

/-- SET of any other pin does nothing (R206). -/
theorem applyOp_set_of_not_lt (h : ¬p < 16) : applyOp b (.set p dir val) = b := by
  simp [applyOp, h]

/-- CALLBACK replaces the target and leaves the masks and `armed` (R207). -/
theorem applyOp_callback (t : Tag) : applyOp b (.callback t) = { b with cbv := true, tag := t } := rfl

end

/-! ## The steps -/

/-- Settles O54: the step of the call, with the accumulator by SET's two cases and by CALLBACK. -/
theorem builderCallsAccumulate : Obligations.BuilderCallsAccumulate := by
  intro s n b rest hb hf
  refine ⟨fun p dir val hin => ?set, fun t hin => ?callback⟩
  case set =>
    rw [step_builderOp hb hf hin]
    by_cases hp : p < 16
    · rw [if_pos hp, applyOp_set_of_lt b dir val hp]
    · rw [if_neg hp, applyOp_set_of_not_lt b dir val hp]
  case callback => rw [step_builderOp hb hf hin, applyOp_callback]

end Sys2Proof.Machine
end

section
/-! The synchronous rejections of a decoded command (spec/60_exceptions.md R221, R222). -/

namespace Sys2Proof.Machine

/-! ## The legality of a command -/

/-- A pin of 16 or more fails the pin check (R222). -/
theorem pinInRange_eq_false_iff (pin : Word) : pinInRange pin = false ↔ 16 ≤ pin.toNat := by
  simp [pinInRange]

/-- A command that is not legal is one of the three single-pin commands, with a pin of 16 or more. -/
theorem exists_pin_of_not_wellFormed {i : Instr} (h : i.wellFormed = false) :
    ∃ (pin : Word) (dir : Direction) (level : Level) (target : Option Tag), 16 ≤ pin.toNat ∧
      (i = .mode pin dir target ∨ i = .write pin level target ∨ i = .toggle pin target) := by
  cases i with
  | mode pin dir target => exact ⟨pin, dir, .low, target, (pinInRange_eq_false_iff pin).mp h, .inl rfl⟩
  | write pin level target => exact ⟨pin, .input, level, target, (pinInRange_eq_false_iff pin).mp h, .inr (.inl rfl)⟩
  | toggle pin target => exact ⟨pin, .input, .low, target, (pinInRange_eq_false_iff pin).mp h, .inr (.inr rfl)⟩
  | bulkWrite | bulkToggle | bulkSetInt | bulkRead | setIH | clrIH => cases h

/-! ## The three outcomes of the checks -/

/-- A command that is not legal answers only the rejection, busy or not (R222). -/
theorem exec_of_not_wellFormed {i : Instr} (h : i.wellFormed = false) (s : State) :
    exec i s = .next (s.emit (.resp (rejected .invalidPin))) := by
  obtain ⟨f, hexec, _⟩ := exec_is_command i s
  rw [hexec, h, command_invalidPin]

/-- A legal command answers only the rejection while the Engine is busy (R221). -/
theorem exec_of_busy {i : Instr} {s : State} (h : i.wellFormed = true) (hbusy : s.state ≠ .idle) :
    exec i s = .next (s.emit (.resp (rejected .busy))) := by
  obtain ⟨f, hexec, _⟩ := exec_is_command i s
  rw [hexec, h, command_busy f hbusy]

/-- A legal command in `Idle` answers the acceptance first (R122 step 4). -/
theorem exec_of_idle {i : Instr} {s : State} (h : i.wellFormed = true) (hidle : s.state = .idle) :
    ∃ t o, exec i s = .next t ∧ t.out = s.out ++ .resp accepted :: o := by
  obtain ⟨f, hexec, hf⟩ := exec_is_command i s
  obtain ⟨o, hout, _⟩ := hf (s.emit (.resp accepted))
  rw [hexec, h, command_idle f hidle]
  exact ⟨_, o, rfl, hout.trans (List.append_assoc ..)⟩

/-- The first response of a command names an invalid pin only if the command is not legal. -/
theorem not_wellFormed_of_invalidPin {i : Instr} {s t : State} {o : List Output} (h : exec i s = .next t)
    (hout : t.out = s.out ++ .resp (rejected .invalidPin) :: o) : i.wellFormed = false := by
  by_contra hwf
  rw [Bool.not_eq_false] at hwf
  by_cases hidle : s.state = .idle
  · obtain ⟨t', o', hexec, hout'⟩ := exec_of_idle hwf hidle
    obtain rfl : t' = t := by simpa [h] using hexec.symm
    simp [hout, accepted, rejected] at hout'
  · rw [exec_of_busy hwf hidle] at h
    cases h
    simp [rejected] at hout

/-! ## The obligations -/

/-- Settles O7: the check for a busy Engine comes out the same for every legal command. -/
theorem busyEngineRejectsCommands : Obligations.BusyEngineRejectsCommands :=
  fun _ _ hwf hbusy => exec_of_busy hwf hbusy

/-- Settles O8: legality of a command is the range of its pin, and SET of a Builder makes the same test. -/
theorem invalidPinIsRejected : Obligations.InvalidPinIsRejected := by
  refine ⟨fun pin dir level target s hpin => ?rejects, fun i s t o h hout => ?onlyThese, fun b p dir val hp => ?builder⟩
  case rejects =>
    have hrange : pinInRange pin = false := (pinInRange_eq_false_iff pin).mpr hpin
    exact ⟨exec_of_not_wellFormed (i := .mode pin dir target) hrange s,
      exec_of_not_wellFormed (i := .write pin level target) hrange s,
      exec_of_not_wellFormed (i := .toggle pin target) hrange s⟩
  case onlyThese => exact exists_pin_of_not_wellFormed (not_wellFormed_of_invalidPin h hout)
  case builder => exact applyOp_set_of_not_lt b dir val (Nat.not_lt.mpr hp)

end Sys2Proof.Machine
end

section
/-! The interrupt service step by step: the edge that starts it, its two reads, its delivery (spec/60_exceptions.md R230, R234
to R236). -/

namespace Sys2Proof.Machine

/-! ## The steps -/

section
variable {s : State} {rdata : Word} {rest : List Event}

/-- An edge in `Idle` is the start of a service (R230). -/
theorem step_irqEdge_of_idle (hidle : s.state = .idle) (hin : s.input = .irqEdge :: rest) :
    step s = .next (serviceStart { s with input := rest }) := by
  obtain ⟨hbusy, _⟩ | ⟨_, heq⟩ := irqEdgeStep_cases { s with input := rest }
  · exact absurd hidle hbusy
  · rw [step_cons hin, handle, heq]

/-- An edge while busy only sets the latch (R230). -/
theorem step_irqEdge_of_busy (hbusy : s.state ≠ .idle) (hin : s.input = .irqEdge :: rest) :
    step s = .next { s with input := rest, irqPending := true } := by
  obtain ⟨_, heq⟩ | ⟨hidle, _⟩ := irqEdgeStep_cases { s with input := rest }
  · rw [step_cons hin, handle, heq]
  · exact absurd hidle hbusy

/-- A service goes on from `IN` to `ISTAT` (R234, R235). -/
theorem complete_readInputForServicing_of_service (h : s.state = .readInputForServicing) (hk : s.kind = .service) :
    complete rdata s = (issueRead .intStat { s with inSnapshot := rdata }).goto .readInterruptStatus := by
  simp [complete, completeReadInputForServicing, h, hk]

/-- Any other request is done with the value of `IN` (R235). -/
theorem complete_readInputForServicing_of_not_service (h : s.state = .readInputForServicing) (hk : s.kind ≠ .service) :
    complete rdata s = stage .ok rdata { s with inSnapshot := rdata } := by
  simp [complete, completeReadInputForServicing, h, hk]

/-- A service is done with the value of `ISTAT` (R236). -/
theorem complete_readInterruptStatus (h : s.state = .readInterruptStatus) :
    complete rdata s = stage .ok rdata s := by
  simp [complete, completeReadInterruptStatus, h]

/-- What a successful service reports: both readings, to the handler if there is one (R126). -/
theorem notification_service_ok (hk : s.kind = .service) (hok : s.resStatus = .ok) :
    (notification s).toList =
      if s.ihValid then [.irqNotify { tag := s.ihTag, status := .ok, changed := s.resValue, values := s.inSnapshot }]
      else [] := by
  simp [notification_toList, hk, isSequenceKind, serviceReport, hok]

/-- `Notify` of a successful service with no further interrupt latched: the report, and back to `Idle` (R126). -/
theorem step_notify_service_ok (hdone : s.state = .signalDone) (hk : s.kind = .service) (hok : s.resStatus = .ok)
    (hirq : s.irqPending = false) (hin : s.input = .notify :: rest) :
    step s = .next { s with
      input := rest, cbValid := false, kind := .none, state := .idle
      out := s.out ++
        if s.ihValid then [.irqNotify { tag := s.ihTag, status := .ok, changed := s.resValue, values := s.inSnapshot }]
        else [] } := by
  have hnone : ¬(s.irqPending = true ∧ s.cfg.policy = .immediate) := by simp [hirq]
  have hdeliver : notifyStep { s with input := rest } = deliver { s with input := rest } :=
    notifyStep_eq_deliver hdone hnone
  have hreport := notification_service_ok (s := { s with input := rest }) hk hok
  rw [step_cons hin, handle, hdeliver, deliver, hreport]

end

/-! ## The tier 1 obligations -/

/-- Settles O30: the edge's step by its two cases. -/
theorem irqEdgeLatchesOrStartsTheService : Obligations.IrqEdgeLatchesOrStartsTheService :=
  fun _ _ hin => ⟨fun hidle => step_irqEdge_of_idle hidle hin, fun hbusy => step_irqEdge_of_busy hbusy hin⟩

/-- Settles O25: the completion rule of each of the two states, in the first by the kind of the request. -/
theorem serviceAndBulkReadCompletions : Obligations.ServiceAndBulkReadCompletions := by
  intro s rdata rest hin
  refine ⟨fun hst hk => ?service, fun hst hk => ?bulkRead, fun hst => ?status⟩
  case service => exact step_busDone_true (hst ▸ rfl) hin (complete_readInputForServicing_of_service hst hk)
  case bulkRead =>
    have hne : s.kind ≠ .service := by simp [hk]
    exact step_busDone_true (hst ▸ rfl) hin (complete_readInputForServicing_of_not_service hst hne)
  case status => exact step_busDone_true (hst ▸ rfl) hin (complete_readInterruptStatus hst)

end Sys2Proof.Machine
end

section
/-! The order of a service's two reads (spec/60_exceptions.md R234): the run of a whole service, and, for every step, where a
read of `ISTAT` can come from. A read is issued on entering the state that waits for it (R67), so the second half asks which
steps enter `ReadInterruptStatus`. -/

namespace Sys2Proof.Machine

/-! ## The run -/

/-- The edge and the first completion put out the two reads, in this order (R234). -/
theorem run_service_reads {s : State} {inp : Word} {rest : List Event} (hidle : s.state = .idle)
    (hin : s.input = .irqEdge :: .busDone true inp :: rest) (k : Nat) :
    Sys2Proof.core.run (k + 2) s = Sys2Proof.core.run k { s with
      input := rest
      irqPending := false, kind := .service, cbValid := false, inSnapshot := inp, state := .readInterruptStatus
      out := s.out ++ [.busReq (readReq s .input), .busReq (readReq s .intStat)] } := by
  refine run_of_step (step_irqEdge_of_idle hidle hin) ?_
  refine run_of_step (step_busDone_true rfl rfl (complete_readInputForServicing_of_service rfl rfl)) ?_
  simp only [State.goto, issueRead, State.emit, serviceStart, List.append_assoc]
  rfl

/-- The second completion and `Notify` deliver the two readings. -/
theorem run_service_delivery {s : State} {stat : Word} {rest : List Event} (hst : s.state = .readInterruptStatus)
    (hk : s.kind = .service) (hirq : s.irqPending = false) (hin : s.input = .busDone true stat :: .notify :: rest) :
    Sys2Proof.core.run 2 s = .next { s with
      input := rest, resStatus := .ok, resValue := stat, cbValid := false, kind := .none, state := .idle
      out := s.out ++
        if s.ihValid then [.irqNotify { tag := s.ihTag, status := .ok, changed := stat, values := s.inSnapshot }]
        else [] } :=
  run_of_step (step_busDone_true (hst ▸ rfl) hin (complete_readInterruptStatus hst))
    (run_of_step (step_notify_service_ok rfl hk rfl hirq rfl) (run_zero _))

/-! ## A read of `ISTAT` is issued on entering `ReadInterruptStatus` -/

/-- A read among a step's outputs is the operation that the state then entered waits for (R67). -/
theorem read_mem_newOutputs {s t : State} {q : BusReq} (h : step s = .next t) (hq : .busReq q ∈ newOutputs s t)
    (hrw : q.rw = .read) : ∃ r, t.state ≠ s.state ∧ outstanding t.state = some (.read, r) ∧ q = readReq s r := by
  obtain ⟨o, hout, hreq⟩ := issuesOnEntry_step h
  have hmem : .busReq q ∈ o.filter isBusReq := by
    refine List.mem_filter.mpr ⟨?_, rfl⟩
    simpa [newOutputs, hout] using hq
  generalize o.filter isBusReq = l at hreq hmem
  cases hreq with
  | quiet => cases hmem
  | read r hne he => exact ⟨r, hne, he, by simpa using hmem⟩
  | write r v =>
    obtain rfl : q = writeReq s r v := by simpa using hmem
    cases hrw

/-- `ReadInterruptStatus` is the only state that waits for a read of `ISTAT` (R21). -/
theorem eq_readInterruptStatus_of_outstanding {e : EngineState} (h : outstanding e = some (.read, .intStat)) :
    e = .readInterruptStatus := by
  cases e <;> simp [outstanding] at h ⊢

/-- Distinct register ids tell the registers apart (R7). -/
theorem eq_of_regId_eq {p : Config.Params} (hp : idsDistinct p) {r q : RemoteReg} (h : regId p r = regId p q) : r = q := by
  obtain ⟨_, hdistinct⟩ := hp
  by_contra hne
  obtain ⟨hid, _⟩ := hdistinct r q hne
  exact hid h

/-! ## The steps that enter `ReadInterruptStatus` -/

/-- The next step handles the next event, the Engine's own `Notify` included. -/
theorem step_eq_handle_nextEvent (s : State) : step s = handle (nextEvent s) { s with input := s.input.tail } := by
  cases hin : s.input with
  | nil =>
    have hs : { s with input := [] } = s := by rw [← hin]
    rw [step_nil hin, nextEvent, hin, List.tail_nil, hs]
    rfl
  | cons e rest =>
    rw [step_cons hin, nextEvent, hin]
    rfl

/-- A decoded command leads there only if its acceptance step does. -/
theorem command_not_enters_readInterruptStatus {f : State → State} {pinOk : Bool} {s : State}
    (hf : ∀ u : State, u.state = .idle → (f u).state ≠ .readInterruptStatus) (hs : s.state ≠ .readInterruptStatus) :
    (command pinOk f s).state ≠ .readInterruptStatus := by
  obtain ⟨_, heq⟩ | ⟨_, _, heq⟩ | ⟨_, hidle, heq⟩ := command_cases pinOk f s <;> rw [heq]
  · exact hs
  · exact hs
  · exact hf (s.emit (.resp accepted)) hidle

/-- No command does: no sequence begins with `ReadInterruptStatus`, SETIH and CLRIH stay in `Idle` (R123, R200, R201). -/
theorem exec_not_enters_readInterruptStatus {i : Instr} {s t : State} (h : exec i s = .next t)
    (hs : s.state ≠ .readInterruptStatus) : t.state ≠ .readInterruptStatus := by
  cases i <;> cases h <;> refine command_not_enters_readInterruptStatus (fun u hidle => ?_) hs
  case setIH | clrIH => simp [hidle]
  all_goals simp

theorem cmdStep_not_enters_readInterruptStatus {w : Command} {s t : State} (h : cmdStep w s = .next t)
    (hs : s.state ≠ .readInterruptStatus) : t.state ≠ .readInterruptStatus := by
  cases hw : decode w with
  | error e =>
    rw [cmdStep_error hw] at h
    cases h
    exact hs
  | ok i =>
    rw [cmdStep_ok hw] at h
    exact exec_not_enters_readInterruptStatus h hs

/-- Of the completion rules, only that of a service's read of `IN` leads there (R124, R235). -/
theorem complete_enters_readInterruptStatus {rdata : Word} {s : State} (hs : s.state ≠ .readInterruptStatus)
    (h : (complete rdata s).state = .readInterruptStatus) : s.state = .readInputForServicing ∧ s.kind = .service := by
  cases hst : s.state <;> simp only [complete, hst] at h
  case readInputForServicing =>
    refine ⟨rfl, ?_⟩
    by_contra hk
    rw [completeReadInputForServicing, if_neg hk] at h
    cases h
  case readDirection | readOutputForWrite =>
    simp only [completeReadDirection, completeReadOutputForWrite, writeIfChanged] at h
    split at h <;> cases h
  case readInterruptStatus => exact absurd hst hs
  all_goals cases h

/-- Of the events, only the successful completion of a service's read of `IN` leads there (R234). -/
theorem handle_enters_readInterruptStatus {e : Event} {s t : State} (h : handle e s = .next t)
    (hs : s.state ≠ .readInterruptStatus) (ht : t.state = .readInterruptStatus) :
    s.state = .readInputForServicing ∧ s.kind = .service ∧ ∃ r, e = .busDone true r := by
  cases e with
  | busDone ok rdata =>
    cases h
    obtain ⟨_, heq⟩ | ⟨_, _, heq⟩ | ⟨_, rfl, heq⟩ := busDoneStep_cases ok rdata s <;> rw [heq] at ht
    · exact absurd ht hs
    · cases ht
    · obtain ⟨hst, hk⟩ := complete_enters_readInterruptStatus hs ht
      exact ⟨hst, hk, rdata, rfl⟩
  | cmd w => exact absurd ht (cmdStep_not_enters_readInterruptStatus h hs)
  | irqEdge =>
    cases h
    obtain ⟨_, heq⟩ | ⟨_, heq⟩ := irqEdgeStep_cases s <;> rw [heq] at ht
    · exact absurd ht hs
    · cases ht
  | notify =>
    cases h
    obtain ⟨_, heq⟩ | ⟨_, _, _, heq⟩ | ⟨_, _, heq⟩ := notifyStep_cases s <;> rw [heq] at ht
    · exact absurd ht hs
    · cases ht
    · cases ht
  | pollTick =>
    cases h
    obtain ⟨_, _, _, heq⟩ | ⟨_, heq⟩ := pollTickStep_cases s <;> rw [heq] at ht
    · cases ht
    · exact absurd ht hs
  | reset => cases h; cases ht
  | builderNew => cases h; exact absurd ht hs
  | builderOp n op =>
    obtain ⟨b, _, rfl⟩ := builderOpStep_next h
    exact absurd ht hs
  | builderCommit n =>
    obtain ⟨b, _, ⟨_, rfl⟩ | ⟨i, u, _, hu, rfl⟩⟩ := builderCommitStep_next h
    · exact absurd ht hs
    · have hu' : u.state ≠ .readInterruptStatus := cmdStep_not_enters_readInterruptStatus hu hs
      exact absurd ht hu'

/-- The same of a whole step, told by the next event (R234). -/
theorem step_enters_readInterruptStatus {s t : State} (h : step s = .next t)
    (hs : s.state ≠ .readInterruptStatus) (ht : t.state = .readInterruptStatus) :
    s.state = .readInputForServicing ∧ s.kind = .service ∧ ∃ r, nextEvent s = .busDone true r := by
  rw [step_eq_handle_nextEvent] at h
  exact handle_enters_readInterruptStatus (s := { s with input := s.input.tail }) h hs ht

/-- Settles O52: the run in its two halves; and the step that reads `ISTAT` enters `ReadInterruptStatus`. -/
theorem serviceSequence : Obligations.ServiceSequence := by
  refine ⟨fun s inp stat rest hidle hin => ⟨?reads, ?whole⟩, fun s t q h hids hq hrw hreg => ?onlyThen⟩
  case reads => exact run_service_reads hidle hin 0
  case whole =>
    rw [run_service_reads hidle hin 2, run_service_delivery rfl rfl rfl rfl, ← hidle]
    rfl
  case onlyThen => -- the ids being distinct, the register read is `ISTAT`, and only one state waits for it
    obtain ⟨r, hne, hout, rfl⟩ := read_mem_newOutputs h hq hrw
    obtain rfl : r = .intStat := eq_of_regId_eq hids hreg
    have ht : t.state = .readInterruptStatus := eq_readInterruptStatus_of_outstanding hout
    have hs : s.state ≠ .readInterruptStatus := fun hs => hne (ht.trans hs.symm)
    exact step_enters_readInterruptStatus h hs ht

end Sys2Proof.Machine
end

section
/-! The `Reset` step (spec/70_reset_and_hazards.md R270): the registers it gives a value, and what it leaves as it was. Nothing is
said of the eight registers the rule leaves unspecified (log entry 8). -/

namespace Sys2Proof.Machine

@[simp] theorem resetStep_state (s : State) : (resetStep s).state = .idle := rfl
@[simp] theorem resetStep_kind (s : State) : (resetStep s).kind = .none := rfl
@[simp] theorem resetStep_cbValid (s : State) : (resetStep s).cbValid = false := rfl
@[simp] theorem resetStep_ihValid (s : State) : (resetStep s).ihValid = false := rfl
@[simp] theorem resetStep_irqPending (s : State) : (resetStep s).irqPending = false := rfl
@[simp] theorem resetStep_devAddr (s : State) : (resetStep s).devAddr = strapAddr s.cfg := rfl
@[simp] theorem resetStep_cfg (s : State) : (resetStep s).cfg = s.cfg := rfl
@[simp] theorem resetStep_input (s : State) : (resetStep s).input = s.input := rfl
@[simp] theorem resetStep_out (s : State) : (resetStep s).out = s.out := rfl

/-- A `Reset` event that is next is taken in every state (R270): the step is `resetStep` after the event is consumed. -/
theorem step_reset {s : State} {rest : List Event} (h : s.input = .reset :: rest) :
    step s = .next (resetStep { s with input := rest }) := by
  rw [step_cons h]
  rfl

/-- Settles O32: the step is `resetStep`, and each clause one of its fields; the address goes through the strap (R30). -/
theorem resetStepFromAnyState : Obligations.ResetStepFromAnyState := by
  intro s rest hin
  have devAddr_by_strap : (resetStep { s with input := rest }).devAddr =
      if s.cfg.addrSel then s.cfg.devAddr1 else s.cfg.devAddr0 :=
    (resetStep_devAddr _).trans (strapAddr_eq_ite s.cfg)
  exact ⟨resetStep { s with input := rest }, step_reset hin, resetStep_input _, resetStep_state _, resetStep_kind _,
    resetStep_cbValid _, resetStep_ihValid _, resetStep_irqPending _, devAddr_by_strap, resetStep_out _, resetStep_cfg _⟩

end Sys2Proof.Machine
end

section
/-! The decoder undoes the encoder, and the words that decode (spec/30_encoding.md R91, R92, R95, R101): a word matches a row of
the opcode table exactly if its `op` and `zero` fields say so. -/

namespace Sys2Proof

/-- Settles O1: the fields of each command's word are read back. -/
theorem decodeOfEncodeIsTheCommand : Obligations.DecodeOfEncodeIsTheCommand := Machine.decode_encode

/-- A word is its seven fields side by side (R91). -/
theorem packFields_of_fields (w : Command) :
    packFields (opField w) (zeroField w) (cbvField w) (tagField w) (cField w) (bField w) (aField w) = w := by
  simp only [packFields, opField, zeroField, cbvField, tagField, cField, bField, aField,
    BitVec.extractLsb'_append_extractLsb'_eq_extractLsb']
  exact BitVec.extractLsb'_eq_self

/-- Words are masked field by field. -/
theorem packFields_and (op op' : BitVec 4) (zero zero' : BitVec 3) (cbv cbv' : BitVec 1) (tag tag' : Tag)
    (c c' b b' a a' : Word) :
    packFields op zero cbv tag c b a &&& packFields op' zero' cbv' tag' c' b' a' =
      packFields (op &&& op') (zero &&& zero') (cbv &&& cbv') (tag &&& tag') (c &&& c') (b &&& b') (a &&& a') := by
  refine BitVec.and_append.trans ?_
  simp only [BitVec.and_append]
  rfl

/-- The mask of the opcode table keeps the fields `op` and `zero` and clears the others (R101). -/
theorem and_rowMask (w : Command) :
    w &&& 0xFE00000000000000#64 = packFields (opField w) (zeroField w) 0 0 0 0 0 := by
  have hmask : 0xFE00000000000000#64 = packFields 0xF#4 0x7#3 0 0 0 0 0 := by decide
  have hop : opField w &&& 0xF#4 = opField w := BitVec.and_allOnes
  have hzero : zeroField w &&& 0x7#3 = zeroField w := BitVec.and_allOnes
  conv_lhs => rw [← packFields_of_fields w, hmask, packFields_and, hop, hzero]
  simp

/-- The match value of a row: the opcode alone (R92). -/
theorem shiftLeft_opcode (op : BitVec 4) : op.setWidth 64 <<< 60 = packFields op 0 0 0 0 0 0 := by
  rw [← formulaWord_eq_packFields]
  simp [Machine.formulaWord]

/-- A word matches the row of an opcode exactly if its `op` is the opcode and its `zero` is 0. -/
theorem matches_row_iff (w : Command) (op : BitVec 4) :
    w &&& 0xFE00000000000000#64 = op.setWidth 64 <<< 60 ↔ opField w = op ∧ zeroField w = 0#3 := by
  rw [and_rowMask, shiftLeft_opcode]
  constructor
  · intro h
    have hop := congrArg opField h
    have hzero := congrArg zeroField h
    rw [opField_packFields, opField_packFields] at hop
    rw [zeroField_packFields, zeroField_packFields] at hzero
    exact ⟨hop, hzero⟩
  · rintro ⟨hop, hzero⟩
    rw [hop, hzero]
    rfl

end Sys2Proof

namespace Sys2Proof.Machine

/-- The words that select a row, by their fields (R92, R95). -/
theorem selectsRow_iff (w : Command) :
    ¬SelectsNoRow w ↔ (1 ≤ (opField w).toNat ∧ (opField w).toNat ≤ 9) ∧ zeroField w = 0#3 := by
  have hop : opField w = 0x0#4 ↔ (opField w).toNat = 0 := BitVec.toNat_inj.symm
  rw [SelectsNoRow, hop, not_or, not_not]
  refine and_congr_left fun _ => ?_
  omega

/-- A decoded command's opcode is the word's, and the word selects a row. -/
theorem opcode_of_decode {w : Command} {i : Instr} (h : decode w = .ok i) :
    ¬SelectsNoRow w ∧ opField w = i.opcode := by
  have hrow : ¬SelectsNoRow w := by
    intro hno
    obtain ⟨e, he⟩ := decode_of_selectsNoRow hno
    cases he.symm.trans h
  refine ⟨hrow, ?_⟩
  obtain ⟨_, hzero⟩ := (selectsRow_iff w).mp hrow
  rw [decode, if_neg (not_not.mpr hzero)] at h
  split at h <;> cases h
  all_goals exact BitVec.eq_of_toNat_eq (by assumption)

/-- Settles O3: a word matches a row exactly if it selects it by its fields, and the decoder goes by the fields. -/
theorem decodedWordsMatchTheirTableRow : Obligations.DecodedWordsMatchTheirTableRow := by
  refine ⟨fun w i hdec => ?decoded, fun w op hpos hle hmatch => ?matching, fun w hnone => ?rejected⟩
  case decoded =>
    obtain ⟨hrow, hop⟩ := opcode_of_decode hdec
    obtain ⟨⟨hpos, hle⟩, hzero⟩ := (selectsRow_iff w).mp hrow
    exact ⟨(matches_row_iff w i.opcode).mpr ⟨hop, hzero⟩, hop ▸ hpos, hop ▸ hle⟩
  case matching =>
    obtain ⟨rfl, hzero⟩ := (matches_row_iff w op).mp hmatch
    obtain ⟨i, hdec, _⟩ := decode_of_selectsRow ((selectsRow_iff w).mpr ⟨⟨hpos, hle⟩, hzero⟩)
    obtain ⟨_, hop⟩ := opcode_of_decode hdec
    exact ⟨i, hdec, hop.symm⟩
  case rejected =>
    refine decode_of_selectsNoRow (not_not.mp fun hrow => ?_)
    obtain ⟨⟨hpos, hle⟩, hzero⟩ := (selectsRow_iff w).mp hrow
    exact hnone (opField w) hpos hle ((matches_row_iff w _).mpr ⟨rfl, hzero⟩)

end Sys2Proof.Machine
end

section
/-! What an event can do, said once (spec/40_engine_common.md R120 to R126, spec/60_exceptions.md R230 to R239,
spec/43_handler_builder.md R205 to R208): the moves of the machine, event by event, each with the condition under which it is
taken. What every step keeps is proved over these. -/

namespace Sys2Proof.Machine

/-- What a decoded command can do (R122, R123, R200, R201). -/
inductive CommandMove (i : Instr) (s : State) : State → Prop
  /-- R122 check 2. -/
  | invalidPin (hwf : i.wellFormed = false) : CommandMove i s (s.emit (.resp (rejected .invalidPin)))
  /-- R122 check 3. -/
  | busy (hwf : i.wellFormed = true) (hbusy : s.state ≠ .idle) : CommandMove i s (s.emit (.resp (rejected .busy)))
  /-- The acceptance of a sequence command. -/
  | start {k : Kind} (hk : sequenceKind i = some k) (hwf : i.wellFormed = true) (hidle : s.state = .idle) :
      CommandMove i s (startSequence k (completionTarget i) (firstRead k) (firstState k)
        (loadPending i (s.emit (.resp accepted))))
  /-- The acceptance of SETIH or CLRIH. -/
  | handler (hk : sequenceKind i = none) (hwf : i.wellFormed = true) (hidle : s.state = .idle) (valid : Bool) (tag : Tag) :
      CommandMove i s { s.emit (.resp accepted) with ihValid := valid, ihTag := tag }

/-- What an event can do, the events still to come left as they are (R121): a command word (R95, R122), a completion (R124, R125),
an edge (R230), `Notify` (R126), a tick (R239), a Reset (R270), a Builder's event (R205 to R208). -/
inductive Move (s : State) : Event → State → Prop
  | noRow {w : Command} {e : DecodeError} (hw : decode w = .error e) : Move s (.cmd w) (s.emit (.resp (rejected .invalidCmd)))
  | cmd {w : Command} {i : Instr} {t : State} (hw : decode w = .ok i) (ht : CommandMove i s t) : Move s (.cmd w) t
  | spurious {ok : Bool} {rdata : Word} (hbus : busOutstanding s.state = false) : Move s (.busDone ok rdata) s
  | failure {rdata : Word} (hbus : busOutstanding s.state = true) : Move s (.busDone false rdata) (busFailure s)
  | completion {rdata : Word} (hbus : busOutstanding s.state = true) : Move s (.busDone true rdata) (complete rdata s)
  | latch (hbusy : s.state ≠ .idle) : Move s .irqEdge { s with irqPending := true }
  | edgeService (hidle : s.state = .idle) : Move s .irqEdge (serviceStart s)
  | notDue (hdone : s.state ≠ .signalDone) : Move s .notify s
  | deliver (hdone : s.state = .signalDone) (hirq : ¬(s.irqPending = true ∧ s.cfg.policy = .immediate)) :
      Move s .notify (deliver s)
  | deliverAndServe (hdone : s.state = .signalDone) (hirq : s.irqPending = true) (hpol : s.cfg.policy = .immediate) :
      Move s .notify (serviceStart (Machine.deliver s))
  | tickService (hpol : s.cfg.policy = .polled) (hidle : s.state = .idle) (hirq : s.irqPending = true) :
      Move s .pollTick (serviceStart s)
  | idleTick (hno : ¬(s.cfg.policy = .polled ∧ s.state = .idle ∧ s.irqPending = true)) : Move s .pollTick s
  | reset : Move s .reset (resetStep s)
  | builderNew : Move s .builderNew (builderNewStep s)
  | builderOp {n : Nat} {op : BuilderOp} {b : Builder} (hb : findBuilder n s = .ok b) :
      Move s (.builderOp n op) { s with builders := s.builders.set n (applyOp b op) }
  | commitNothing {n : Nat} {b : Builder} (hb : findBuilder n s = .ok b) (hc : builderCommand b = none) :
      Move s (.builderCommit n)
        (State.emit { s with builders := s.builders.set n { b with finished := true } } (.commitResult n none))
  | commit {n : Nat} {b : Builder} {i : Instr} {u : State} (hb : findBuilder n s = .ok b) (hc : builderCommand b = some i)
      (hu : CommandMove i { s with builders := s.builders.set n { b with finished := true } } u) :
      Move s (.builderCommit n) (u.emit (.commitResult n (some (verdict true s))))

/-- SETIH in `Idle` fills the handler slot (R200). -/
theorem exec_setIH_of_idle (h : Tag) {s : State} (hidle : s.state = .idle) :
    exec (.setIH h) s = .next { s.emit (.resp accepted) with ihValid := true, ihTag := h } :=
  congrArg _ (command_idle _ hidle)

/-- CLRIH in `Idle` empties it and leaves its tag (R201). -/
theorem exec_clrIH_of_idle {s : State} (hidle : s.state = .idle) :
    exec .clrIH s = .next { s.emit (.resp accepted) with ihValid := false } :=
  congrArg _ (command_idle _ hidle)

/-- The two commands that start no sequence write the handler slot. -/
theorem exec_handler {i : Instr} (hk : sequenceKind i = none) {s : State} (hidle : s.state = .idle) :
    ∃ (valid : Bool) (tag : Tag), exec i s = .next { s.emit (.resp accepted) with ihValid := valid, ihTag := tag } := by
  cases i <;> cases hk
  case setIH h => exact ⟨true, h, exec_setIH_of_idle h hidle⟩
  case clrIH => exact ⟨false, s.ihTag, exec_clrIH_of_idle hidle⟩

/-- `Notify` does nothing where it is not due (log entry 4). -/
theorem notifyStep_of_not_due {s : State} (h : s.state ≠ .signalDone) : notifyStep s = s := by
  simp [notifyStep, notifyDue, h]

/-- A completion does nothing where none is awaited (R124). -/
theorem busDoneStep_of_not_outstanding {s : State} (h : busOutstanding s.state = false) (ok : Bool) (rdata : Word) :
    busDoneStep ok rdata s = s := by
  simp [busDoneStep, h]

/-- Every command makes one of its moves. -/
theorem commandMove_of_exec {i : Instr} {s t : State} (h : exec i s = .next t) : CommandMove i s t := by
  cases hwf : i.wellFormed with
  | false =>
    rw [exec_of_not_wellFormed hwf] at h
    cases h
    exact .invalidPin hwf
  | true =>
    by_cases hidle : s.state = .idle
    · cases hk : sequenceKind i with
      | some k =>
        rw [exec_by_tables hk hwf, command_idle _ hidle] at h
        cases h
        exact .start hk hwf hidle
      | none =>
        obtain ⟨valid, tag, hexec⟩ := exec_handler hk hidle
        rw [hexec] at h
        cases h
        exact .handler hk hwf hidle valid tag
    · rw [exec_of_busy hwf hidle] at h
      cases h
      exact .busy hwf hidle

/-- Every event that answers a next state makes one of its moves. -/
theorem move_of_handle {e : Event} {s t : State} (h : handle e s = .next t) : Move s e t := by
  cases e with
  | cmd w =>
    cases hw : decode w with
    | error e =>
      rw [handle, cmdStep_error hw] at h
      cases h
      exact .noRow hw
    | ok i =>
      rw [handle, cmdStep_ok hw] at h
      exact .cmd hw (commandMove_of_exec h)
  | busDone ok rdata =>
    cases h
    obtain ⟨hbus, heq⟩ | ⟨hbus, rfl, heq⟩ | ⟨hbus, rfl, heq⟩ := busDoneStep_cases ok rdata s <;> rw [heq]
    · exact .spurious hbus
    · exact .failure hbus
    · exact .completion hbus
  | irqEdge =>
    cases h
    obtain ⟨hbusy, heq⟩ | ⟨hidle, heq⟩ := irqEdgeStep_cases s <;> rw [heq]
    · exact .latch hbusy
    · exact .edgeService hidle
  | notify =>
    cases h
    obtain ⟨hdone, heq⟩ | ⟨hdone, hirq, hpol, heq⟩ | ⟨hdone, hirq, heq⟩ := notifyStep_cases s <;> rw [heq]
    · exact .notDue hdone
    · exact .deliverAndServe hdone hirq hpol
    · exact .deliver hdone hirq
  | pollTick =>
    cases h
    obtain ⟨hpol, hidle, hirq, heq⟩ | ⟨hno, heq⟩ := pollTickStep_cases s <;> rw [heq]
    · exact .tickService hpol hidle hirq
    · exact .idleTick hno
  | reset => cases h; exact .reset
  | builderNew => cases h; exact .builderNew
  | builderOp n op =>
    obtain ⟨b, hb, rfl⟩ := builderOpStep_next h
    exact .builderOp hb
  | builderCommit n =>
    obtain ⟨b, hb, ⟨hc, rfl⟩ | ⟨i, u, hc, hu, rfl⟩⟩ := builderCommitStep_next h
    · exact .commitNothing hb hc
    · rw [cmdStep_ok (decode_encode i)] at hu
      exact .commit hb hc (commandMove_of_exec hu)

/-- Every step that answers a next state makes a move of its event, the event consumed. -/
theorem move_of_step {s t : State} (h : step s = .next t) : Move { s with input := s.input.tail } (nextEvent s) t :=
  move_of_handle (step_eq_handle_nextEvent s ▸ h)

end Sys2Proof.Machine
end

section
/-! What a completion leads to and what it leaves as it is (spec/40_engine_common.md R124, R125, R131; spec/10_state.md R33 (h)). -/

namespace Sys2Proof.Machine

/-- The pending request, the handler slot, the bus address and the parameters of `t` are those of `s`. -/
structure KeepsRequest (s t : State) : Prop where
  pins : t.pins = s.pins
  pa : t.pa = s.pa
  pb : t.pb = s.pb
  kind : t.kind = s.kind
  cbValid : t.cbValid = s.cbValid
  cbTag : t.cbTag = s.cbTag
  ihValid : t.ihValid = s.ihValid
  ihTag : t.ihTag = s.ihTag
  devAddr : t.devAddr = s.devAddr
  cfg : t.cfg = s.cfg

/-- A successful completion keeps the request (R33 (h)). -/
theorem keepsRequest_complete {rdata : Word} {s : State} (hbus : busOutstanding s.state = true) :
    KeepsRequest s (complete rdata s) := by
  obtain ⟨n, _, ⟨v, heq, _⟩ | ⟨r, e, heq, _⟩ | ⟨r, e, v, heq, _⟩⟩ := complete_cases rdata s hbus <;> rw [heq] <;>
    exact ⟨rfl, rfl, rfl, rfl, rfl, rfl, rfl, rfl, rfl, rfl⟩

/-- A failed completion keeps the request, too (R125). -/
theorem keepsRequest_busFailure (s : State) : KeepsRequest s (busFailure s) :=
  ⟨rfl, rfl, rfl, rfl, rfl, rfl, rfl, rfl, rfl, rfl⟩

/-- Where a read of a single-pin command leads, by the merged value (R151, R155). -/
theorem writeIfChanged_state (r : RemoteReg) (e : EngineState) (rdata : Word) (s : State) :
    (writeIfChanged r e rdata s).state = if merge rdata s.pins s.pa ≠ rdata then e else .signalDone := by
  by_cases h : merge rdata s.pins s.pa = rdata
  · rw [writeIfChanged_of_eq h, if_neg (not_not.mpr h), stage_state]
  · rw [writeIfChanged_of_ne h, if_pos h, State.goto_state]

/-- A successful completion leads where R131's column `BusDone` ok says. -/
theorem complete_state (rdata : Word) (s : State) : (complete rdata s).state = tableOk rdata s := by
  unfold complete tableOk
  cases hst : s.state
  case idle | signalDone => exact hst
  case readDirection | readOutputForWrite => exact writeIfChanged_state ..
  case readInputForServicing =>
    simp only [completeReadInputForServicing]
    split <;> rfl
  all_goals rfl

/-- A successful completion ends the sequence or leads to a further wait. -/
theorem complete_ends_or_waits {rdata : Word} {s : State} (hbus : busOutstanding s.state = true) :
    (complete rdata s).state = .signalDone ∨ busOutstanding (complete rdata s).state = true := by
  obtain ⟨n, _, ⟨v, heq, _⟩ | ⟨r, e, heq, he, _⟩ | ⟨r, e, v, heq, he, _⟩⟩ := complete_cases rdata s hbus <;> rw [heq]
  · exact .inl rfl
  all_goals exact .inr (by simp [busOutstanding, he])

/-- A state that waits for the bus is not `Idle`. -/
theorem ne_idle_of_busOutstanding {e : EngineState} (hbus : busOutstanding e = true) : e ≠ .idle := by
  rintro rfl
  cases hbus

/-- A state that waits for the bus is not `SignalDone`. -/
theorem ne_signalDone_of_busOutstanding {e : EngineState} (hbus : busOutstanding e = true) : e ≠ .signalDone := by
  rintro rfl
  cases hbus

end Sys2Proof.Machine
end

section
/-! The invariant of the Engine (spec/10_state.md R33, with R21, R24, R26, R30): it holds at reset, and every move keeps it. -/

namespace Sys2Proof.Machine

/-! ## What does not touch the invariant -/

section
variable {s : State}

/-- The invariant looks at no output. -/
theorem EngineInv.emit (h : EngineInv s) (o : Output) : EngineInv (s.emit o) :=
  ⟨h.kind_fits, h.service_no_target, h.immediate_idle, h.strap_addr, h.pending_shape, h.result_shape⟩

/-- The invariant looks at no event still to come. -/
theorem EngineInv.withInput (h : EngineInv s) (evs : List Event) : EngineInv { s with input := evs } :=
  ⟨h.kind_fits, h.service_no_target, h.immediate_idle, h.strap_addr, h.pending_shape, h.result_shape⟩

/-- The invariant looks at no Builder. -/
theorem EngineInv.withBuilders (h : EngineInv s) (bs : List Builder) : EngineInv { s with builders := bs } :=
  ⟨h.kind_fits, h.service_no_target, h.immediate_idle, h.strap_addr, h.pending_shape, h.result_shape⟩

/-- The invariant does not look at the handler slot. -/
theorem EngineInv.withHandler (h : EngineInv s) (valid : Bool) (tag : Tag) :
    EngineInv { s with ihValid := valid, ihTag := tag } :=
  ⟨h.kind_fits, h.service_no_target, h.immediate_idle, h.strap_addr, h.pending_shape, h.result_shape⟩

end

/-! ## The operations -/

/-- A kind pending while the bus is awaited is a kind that a result can be staged for (R21). -/
theorem kindFits_signalDone {e : EngineState} {k : Kind} (hbus : busOutstanding e = true) (h : kindFits e k = true) :
    kindFits .signalDone k = true := by
  cases k with
  | none => cases e <;> simp [kindFits] at h; simp [busOutstanding, outstanding] at hbus
  | mode | write | toggle | bulkWrite | bulkToggle | bulkSetInt | bulkRead | service => rfl

/-- The masks of a legal sequence command have the shape of its kind (R24). -/
theorem pendingShape_loadPending {i : Instr} {k : Kind} (hk : sequenceKind i = some k) (hwf : i.wellFormed = true)
    (s : State) : pendingShape { loadPending i s with kind := k } := by
  have oneHot_of_pin {pin : Word} (h : pinInRange pin = true) : isOneHot (1#16 <<< pin.toNat) :=
    ⟨⟨pin.toNat, (pinInRange_iff pin).mp h⟩, rfl⟩
  cases i with
  | mode pin dir target =>
    cases hk
    refine ⟨oneHot_of_pin hwf, ?_⟩
    cases dir
    · exact .inl rfl
    · exact .inr rfl
  | write pin level target =>
    cases hk
    refine ⟨oneHot_of_pin hwf, ?_⟩
    cases level
    · exact .inr rfl
    · exact .inl rfl
  | toggle pin target => cases hk; exact oneHot_of_pin hwf
  | bulkSetInt m v target => cases hk; rfl
  | bulkWrite | bulkToggle | bulkRead => cases hk; trivial
  | setIH | clrIH => cases hk

/-- The kind of a sequence a command starts fits its first state (R123), which awaits the bus, and is no service. -/
theorem kindFits_firstState {i : Instr} {k : Kind} (hk : sequenceKind i = some k) :
    kindFits (firstState k) k = true ∧ busOutstanding (firstState k) = true ∧ k ≠ .service := by
  cases i <;> cases hk <;> decide

/-- Where a successful completion leads, the pending kind fits (R21). -/
theorem kindFits_tableOk {rdata : Word} {s : State} (hbus : busOutstanding s.state = true)
    (h : kindFits s.state s.kind = true) : kindFits (tableOk rdata s) s.kind = true := by
  have hdone := kindFits_signalDone hbus h
  unfold tableOk
  cases hst : s.state <;> rw [hst] at h hbus
  case idle | signalDone => cases hbus
  case readDirection | readOutputForWrite =>
    dsimp only
    split
    · exact h
    · exact hdone
  case readInputForServicing =>
    dsimp only
    split
    next hk => rw [hk]; rfl
    next => exact hdone
  case writeDirection | writeOutputForWrite | writeOutputForToggle | writeOutputForBulkSet | writeInterruptMask |
      readInterruptStatus => exact hdone
  all_goals exact h

/-- A state that waits for the bus has no result staged. -/
theorem resultShape_of_busOutstanding {s : State} (hbus : busOutstanding s.state = true) : resultShape s :=
  fun hdone => absurd hdone (ne_signalDone_of_busOutstanding hbus)

/-- The shape of the pending registers depends on the request alone. -/
theorem KeepsRequest.pendingShape {s t : State} (hreq : KeepsRequest s t) (h : pendingShape s) : pendingShape t := by
  unfold Machine.pendingShape at h ⊢
  rwa [hreq.kind, hreq.pins, hreq.pa]

/-- With the request kept, the invariant comes down to the state reached: the kind fits it, it is not `Idle`, and the staged
result has its shape. -/
theorem EngineInv.of_keepsRequest {s t : State} (h : EngineInv s) (hreq : KeepsRequest s t) (hbusy : t.state ≠ .idle)
    (hfits : kindFits t.state s.kind = true) (hres : resultShape t) : EngineInv t where
  kind_fits := hreq.kind ▸ hfits
  service_no_target hk := hreq.cbValid.trans (h.service_no_target (hreq.kind.symm.trans hk))
  immediate_idle _ hidle := absurd hidle hbusy
  strap_addr := by rw [hreq.devAddr, hreq.cfg, h.strap_addr]
  pending_shape := hreq.pendingShape h.pending_shape
  result_shape := hres

/-! ## The moves -/

section
variable {s : State}

/-- A failure stages no value (R125). -/
theorem engineInv_busFailure (h : EngineInv s) (hbus : busOutstanding s.state = true) : EngineInv (busFailure s) :=
  h.of_keepsRequest (keepsRequest_busFailure s) nofun (kindFits_signalDone hbus h.kind_fits)
    fun _ => ⟨fun _ => rfl, fun _ _ => rfl⟩

/-- A result is staged with a value only by the last read of a BULKREAD or of a service (R26). -/
theorem resultShape_complete {rdata : Word} (hfits : kindFits s.state s.kind = true) (hbus : busOutstanding s.state = true) :
    resultShape (complete rdata s) := by
  obtain ⟨n, _, ⟨v, heq, hv⟩ | ⟨r, e, heq, he, _⟩ | ⟨r, e, v, heq, he, _⟩⟩ := complete_cases rdata s hbus <;> rw [heq]
  · refine fun _ => ⟨nofun, fun hread hservice => ?_⟩
    by_contra hne
    obtain ⟨hst, hk⟩ | hst := hv hne
    · simp [kindFits, hst, hk] at hfits
      exact hread hfits
    · exact hservice (by simpa [kindFits, hst] using hfits)
  all_goals exact resultShape_of_busOutstanding (by simp [busOutstanding, he])

/-- A successful completion leads on to a state that the kind fits (R124). -/
theorem engineInv_complete {rdata : Word} (h : EngineInv s) (hbus : busOutstanding s.state = true) :
    EngineInv (complete rdata s) := by
  have hfits : kindFits (complete rdata s).state s.kind = true := complete_state rdata s ▸ kindFits_tableOk hbus h.kind_fits
  have hbusy : (complete rdata s).state ≠ .idle := by
    obtain hdone | hwait := complete_ends_or_waits (rdata := rdata) hbus
    · simp [hdone]
    · exact ne_idle_of_busOutstanding hwait
  exact h.of_keepsRequest (keepsRequest_complete hbus) hbusy hfits (resultShape_complete h.kind_fits hbus)

/-- An edge is latched only while busy (R33 (g)). -/
theorem engineInv_latch (h : EngineInv s) (hbusy : s.state ≠ .idle) : EngineInv { s with irqPending := true } :=
  ⟨h.kind_fits, h.service_no_target, fun _ hidle => absurd hidle hbusy, h.strap_addr, h.pending_shape, h.result_shape⟩

/-- A service has no completion target and restricts no pending register (R232). -/
theorem engineInv_serviceStart (hstrap : s.devAddr = strapAddr s.cfg) : EngineInv (serviceStart s) :=
  ⟨rfl, fun _ => rfl, fun _ _ => rfl, hstrap, trivial, nofun⟩

/-- `Notify` returns to `Idle` only with no interrupt to be served at once (R33 (g)). -/
theorem engineInv_deliver (h : EngineInv s) (hirq : ¬(s.irqPending = true ∧ s.cfg.policy = .immediate)) :
    EngineInv (deliver s) :=
  ⟨rfl, nofun, fun hpol _ => Bool.eq_false_iff.mpr fun hpend => hirq ⟨hpend, hpol⟩, h.strap_addr, trivial, nofun⟩

/-- A Reset leaves the kind none, the latch clear and the strapped address (R270). -/
theorem engineInv_resetStep : EngineInv (resetStep s) := ⟨rfl, nofun, fun _ _ => rfl, rfl, trivial, nofun⟩

/-- The acceptance of a sequence command loads what its kind asks for (R123). -/
theorem engineInv_startSequence {i : Instr} {k : Kind} (hk : sequenceKind i = some k) (hwf : i.wellFormed = true)
    (hstrap : s.devAddr = strapAddr s.cfg) :
    EngineInv (startSequence k (completionTarget i) (firstRead k) (firstState k) (loadPending i s)) := by
  obtain ⟨hfits, hbus, hservice⟩ := kindFits_firstState hk
  exact ⟨hfits, fun h => absurd h hservice, fun _ hidle => absurd hidle (ne_idle_of_busOutstanding hbus), hstrap,
    pendingShape_loadPending hk hwf s, resultShape_of_busOutstanding hbus⟩

theorem engineInv_of_commandMove {i : Instr} {t : State} (h : EngineInv s) (hm : CommandMove i s t) : EngineInv t := by
  cases hm with
  | invalidPin | busy => exact h.emit _
  | start hk hwf _ => exact engineInv_startSequence hk hwf h.strap_addr
  | handler _ _ _ valid tag => exact (h.emit _).withHandler valid tag

theorem engineInv_of_move {e : Event} {t : State} (h : EngineInv s) (hm : Move s e t) : EngineInv t := by
  cases hm with
  | noRow => exact h.emit _
  | cmd _ ht => exact engineInv_of_commandMove h ht
  | spurious | notDue | idleTick => exact h
  | failure hbus => exact engineInv_busFailure h hbus
  | completion hbus => exact engineInv_complete h hbus
  | latch hbusy => exact engineInv_latch h hbusy
  | edgeService | deliverAndServe | tickService => exact engineInv_serviceStart h.strap_addr
  | deliver _ hirq => exact engineInv_deliver h hirq
  | reset => exact engineInv_resetStep
  | builderNew | builderOp => exact h.withBuilders _
  | commitNothing => exact (h.withBuilders _).emit _
  | commit _ _ hu => exact (engineInv_of_commandMove (h.withBuilders _) hu).emit _

end

/-- Settles O35: every move keeps the invariant, and consuming the event does. -/
theorem engineInvIsKeptByEveryStep : Obligations.EngineInvIsKeptByEveryStep :=
  fun s _ h hstep => engineInv_of_move (h.withInput s.input.tail) (move_of_step hstep)

/-- Settles O34: at reset no kind is pending, and the address is the strapped one. -/
theorem engineInvHoldsAtReset : Obligations.EngineInvHoldsAtReset :=
  ⟨rfl, nofun, fun _ _ => rfl, State.reset_devAddr, trivial, nofun⟩

end Sys2Proof.Machine
end

section
/-! COMMIT of a Builder, and the calls that stop the machine (spec/43_handler_builder.md R208): only a call on a Builder that is
finished or unknown does (log entry 13). -/

namespace Sys2Proof.Machine

/-! ## What COMMIT sends -/

/-- An armed Builder's command is the BULKWRITE of its accumulator. -/
theorem builderCommand_of_armed {b : Builder} (h : b.armed = true) :
    builderCommand b = some (.bulkWrite b.pins b.dirs b.vals (builderTarget b)) := if_pos h

/-- A Builder never armed has no command. -/
theorem builderCommand_of_not_armed {b : Builder} (h : b.armed = false) : builderCommand b = none := by
  simp [builderCommand, h]

/-- The Builder that a call finds is one created and not yet committed. -/
theorem findBuilder_eq_ok_iff {n : Nat} {b : Builder} {s : State} :
    findBuilder n s = .ok b ↔ s.builders[n]? = some b ∧ b.finished = false := by
  refine ⟨fun h => ?_, fun ⟨hb, hf⟩ => findBuilder_eq_ok hb hf⟩
  unfold findBuilder at h
  split at h
  · cases h
  next hb =>
    split at h
    · cases h
    next hf =>
      cases h
      exact ⟨hb, Bool.not_eq_true _ ▸ hf⟩

/-! ## The steps of COMMIT -/

section
variable {s : State} {n : Nat} {b : Builder} {rest : List Event}

/-- COMMIT of an armed Builder runs its command in the same step, and the result is that command's response. -/
theorem step_commit_armed (hb : s.builders[n]? = some b) (hf : b.finished = false) (harmed : b.armed = true)
    (hin : s.input = .builderCommit n :: rest) {t : State}
    (hexec : exec (.bulkWrite b.pins b.dirs b.vals (builderTarget b))
      { s with input := rest, builders := s.builders.set n { b with finished := true } } = .next t) :
    step s = .next (t.emit (.commitResult n (some (verdict true s)))) := by
  have hfind : findBuilder n { s with input := rest } = .ok b := findBuilder_eq_ok hb hf
  rw [step_cons hin, handle, builderCommitStep, hfind]
  simp only [builderCommand_of_armed harmed, cmdStep_ok (decode_encode _), hexec]
  rfl

/-- COMMIT of a Builder never armed sends nothing. -/
theorem step_commit_not_armed (hb : s.builders[n]? = some b) (hf : b.finished = false) (harmed : b.armed = false)
    (hin : s.input = .builderCommit n :: rest) :
    step s = .next (State.emit { s with input := rest, builders := s.builders.set n { b with finished := true } }
      (.commitResult n none)) := by
  have hfind : findBuilder n { s with input := rest } = .ok b := findBuilder_eq_ok hb hf
  rw [step_cons hin, handle, builderCommitStep, hfind]
  simp only [builderCommand_of_not_armed harmed]

/-- A call that finds no Builder it may use stops the machine with the fault that names the reason. -/
theorem step_builder_fault {e : Event} {f : Fault} (he : (∃ op, e = .builderOp n op) ∨ e = .builderCommit n)
    (hfind : findBuilder n s = .error f) (hin : s.input = e :: rest) : step s = .fault f := by
  have hfind' : findBuilder n { s with input := rest } = .error f := hfind
  rw [step_cons hin]
  obtain ⟨op, rfl⟩ | rfl := he
  · rw [handle, builderOpStep, hfind']
  · rw [handle, builderCommitStep, hfind']

end

/-- A legal command answers the response of the checks first. -/
theorem exec_response {i : Instr} {s : State} (h : i.wellFormed = true) :
    ∃ t o, exec i s = .next t ∧ t.out = s.out ++ .resp (verdict true s) :: o := by
  by_cases hidle : s.state = .idle
  · have hv : verdict true s = accepted := by simp [verdict, busy, hidle]
    exact hv ▸ exec_of_idle h hidle
  · have hv : verdict true s = rejected .busy := by simp [verdict, busy, hidle]
    exact ⟨_, [], exec_of_busy h hidle, hv ▸ rfl⟩

/-- Settles O55: the step of COMMIT, with the command's own response as its result. -/
theorem builderCommitSendsOneBulkWrite : Obligations.BuilderCommitSendsOneBulkWrite := by
  intro s n b rest hb hf hin cmd s'
  refine ⟨fun harmed => ?armed, fun harmed => step_commit_not_armed hb hf harmed hin⟩
  case armed =>
    obtain ⟨t, o, hexec, hout⟩ := exec_response (i := cmd) (s := s') rfl
    exact ⟨t, verdict true s', o, hexec, hout, step_commit_armed hb hf harmed hin hexec⟩

/-- Settles O37: an event that is no Builder's has a step by definition, a call has one on the Builder it finds, and else it
stops with the fault of `findBuilder`. -/
theorem onlyBuilderMisuseStopsTheMachine : Obligations.OnlyBuilderMisuseStopsTheMachine := by
  refine ⟨fun s he => ?engine, fun s rest hin => step_cons hin, fun s n rest =>
    ⟨fun b hb hf => ⟨fun op hin => ⟨_, step_builderOp hb hf hin⟩, fun hin => ?commit⟩, fun b hb hf => ?finished,
      fun hb => ?unknown⟩⟩
  case engine =>
    rw [step_eq_handle_nextEvent]
    cases hev : nextEvent s with
    | cmd w =>
      cases hw : decode w with
      | error e => exact ⟨_, cmdStep_error hw _⟩
      | ok i =>
        rw [handle, cmdStep_ok hw]
        exact exec_next i _
    | busDone | irqEdge | notify | pollTick | reset => exact ⟨_, rfl⟩
    | builderNew | builderOp | builderCommit =>
      rw [hev] at he
      cases he
  case commit =>
    cases harmed : b.armed with
    | true =>
      obtain ⟨t, hexec⟩ := exec_next (.bulkWrite b.pins b.dirs b.vals (builderTarget b))
        { s with input := rest, builders := s.builders.set n { b with finished := true } }
      exact ⟨_, step_commit_armed hb hf harmed hin hexec⟩
    | false => exact ⟨_, step_commit_not_armed hb hf harmed hin⟩
  case finished =>
    have hfind : findBuilder n s = .error (.builderFinished n) := by simp [findBuilder, hb, hf]
    exact ⟨fun op hin => step_builder_fault (.inl ⟨op, rfl⟩) hfind hin, fun hin => step_builder_fault (.inr rfl) hfind hin⟩
  case unknown =>
    have hfind : findBuilder n s = .error (.noSuchBuilder n) := by simp [findBuilder, hb]
    exact ⟨fun op hin => step_builder_fault (.inl ⟨op, rfl⟩) hfind hin, fun hin => step_builder_fault (.inr rfl) hfind hin⟩

end Sys2Proof.Machine
end

section
/-! Where a step leads (spec/40_engine_common.md R131), and what it keeps: the pending request while the bus is awaited
(spec/10_state.md R33 (h)), the parameters and the bus address (spec/10_state.md R30, R34). -/

namespace Sys2Proof.Machine

/-! ## The transition table -/

/-- A command leads from `Idle` to its target by the table, and from nowhere else. -/
theorem commandMove_state {i : Instr} {s t : State} (hm : CommandMove i s t) :
    t.state = if s.state = .idle then commandTarget i else s.state := by
  cases hm with
  | invalidPin hwf =>
    simp only [State.emit_state, commandTarget, hwf]
    split <;> simp_all
  | busy _ hbusy => exact (if_neg hbusy).symm
  | start hk hwf hidle => simp [hidle, commandTarget, hwf, hk]
  | handler hk hwf hidle => simp [hidle, commandTarget, hwf, hk]

/-- Nothing is outstanding in `Idle` and in `SignalDone` only (R31). -/
theorem busOutstanding_eq_false_iff {e : EngineState} : busOutstanding e = false ↔ e = .idle ∨ e = .signalDone := by
  cases e <;> simp [busOutstanding, outstanding]

/-- R131, column `BusDone` fail, outside `Idle`. -/
theorem tableFail_of_ne_idle {e : EngineState} (h : e ≠ .idle) : tableFail e = .signalDone := by
  cases e
  case idle => exact absurd rfl h
  all_goals rfl

/-- A COMMIT leads where the Builder's command does, if it has one. -/
theorem tableNext_commit {n : Nat} {b : Builder} {s : State} (hb : findBuilder n s = .ok b) :
    tableNext (.builderCommit n) s =
      if b.armed = true ∧ s.state = .idle then .readDirectionForBulkSet else s.state := by
  obtain ⟨hb, _⟩ := findBuilder_eq_ok_iff.mp hb
  simp only [tableNext, hb]

/-- Every move leads where the table says for its event. -/
theorem move_state {s t : State} {e : Event} (hm : Move s e t) : t.state = tableNext e s := by
  cases hm with
  | noRow hw => by_cases hidle : s.state = .idle <;> simp [tableNext, hw, hidle]
  | cmd hw ht => simp only [commandMove_state ht, tableNext, hw]
  | @spurious ok _ hbus =>
    obtain hst | hst := busOutstanding_eq_false_iff.mp hbus <;> cases ok <;> simp [tableNext, tableOk, tableFail, hst]
  | failure hbus => exact (tableFail_of_ne_idle (ne_idle_of_busOutstanding hbus)).symm
  | completion => exact complete_state ..
  | latch hbusy => exact (if_neg hbusy).symm
  | edgeService hidle => exact (if_pos hidle).symm
  | notDue hdone => exact (if_neg hdone).symm
  | deliver hdone hirq => simp [tableNext, hdone, hirq]
  | deliverAndServe hdone hirq hpol => simp [tableNext, hdone, hirq, hpol]
  | tickService hpol hidle hirq => exact (if_pos ⟨hpol, hidle, hirq⟩).symm
  | idleTick hno => exact (if_neg hno).symm
  | reset | builderNew | builderOp => rfl
  | @commitNothing n b hb hc =>
    have harmed : ¬(b.armed = true ∧ s.state = .idle) := by
      rintro ⟨harmed, _⟩
      cases (builderCommand_of_armed harmed).symm.trans hc
    rw [tableNext_commit hb, if_neg harmed, State.emit_state]
  | @commit n b i u hb hc hu =>
    have harmed : b.armed = true := by
      by_contra harmed
      cases (builderCommand_of_not_armed (Bool.not_eq_true _ ▸ harmed)).symm.trans hc
    obtain rfl : _ = i := Option.some.inj ((builderCommand_of_armed harmed).symm.trans hc)
    rw [tableNext_commit hb, State.emit_state, commandMove_state hu]
    simp [harmed, commandTarget, Instr.wellFormed, sequenceKind, firstState]

/-- The table does not look at the events still to come. -/
theorem tableNext_withInput (e : Event) (s : State) (evs : List Event) :
    tableNext e { s with input := evs } = tableNext e s := rfl

/-- Settles O36: a step makes a move of its event, and every move goes by the table. -/
theorem stepsFollowTheTransitionTable : Obligations.StepsFollowTheTransitionTable :=
  fun s _ h => (move_state (move_of_step h)).trans (tableNext_withInput _ s _)

/-! ## The pending request while the bus is awaited -/

/-- A command that arrives while the bus is awaited keeps the request: it is rejected. -/
theorem keepsRequest_of_commandMove {i : Instr} {s t : State} (hm : CommandMove i s t)
    (hbus : busOutstanding s.state = true) : KeepsRequest s t := by
  cases hm with
  | invalidPin | busy => exact ⟨rfl, rfl, rfl, rfl, rfl, rfl, rfl, rfl, rfl, rfl⟩
  | start _ _ hidle | handler _ _ hidle => exact absurd hidle (ne_idle_of_busOutstanding hbus)

/-- While the bus is awaited no move but a Reset changes the request, the handler slot or the address (R33 (h)). -/
theorem keepsRequest_of_move {e : Event} {s t : State} (hm : Move s e t) (hbus : busOutstanding s.state = true)
    (he : e ≠ .reset) : KeepsRequest s t := by
  have hidle := ne_idle_of_busOutstanding hbus
  have hdone := ne_signalDone_of_busOutstanding hbus
  cases hm with
  | cmd _ ht => exact keepsRequest_of_commandMove ht hbus
  | completion => exact keepsRequest_complete hbus
  | failure => exact keepsRequest_busFailure s
  | edgeService h | tickService _ h => exact absurd h hidle
  | deliver h | deliverAndServe h => exact absurd h hdone
  | reset => exact absurd rfl he
  | commit _ _ hu =>
    obtain ⟨hpins, hpa, hpb, hkind, hvalid, htag, hih, hihTag, haddr, hcfg⟩ := keepsRequest_of_commandMove hu hbus
    exact ⟨hpins, hpa, hpb, hkind, hvalid, htag, hih, hihTag, haddr, hcfg⟩
  | noRow | spurious | latch | notDue | idleTick | builderNew | builderOp | commitNothing =>
    exact ⟨rfl, rfl, rfl, rfl, rfl, rfl, rfl, rfl, rfl, rfl⟩

/-- Settles O38: every move but a Reset keeps the request. -/
theorem pendingRequestAndHandlerAreStable : Obligations.PendingRequestAndHandlerAreStable := by
  intro s t hbus hev hstep
  obtain ⟨hpins, hpa, hpb, hkind, hvalid, htag, hih, hihTag, haddr, _⟩ :=
    keepsRequest_of_move (move_of_step hstep) hbus hev
  exact ⟨hpins, hpa, hpb, hkind, hvalid, htag, hih, hihTag, haddr⟩

/-! ## The parameters and the bus address -/

/-- A command writes neither the parameters nor the address. -/
theorem commandMove_cfg_devAddr {i : Instr} {s t : State} (hm : CommandMove i s t) :
    t.cfg = s.cfg ∧ t.devAddr = s.devAddr := by
  cases hm <;> exact ⟨rfl, rfl⟩

/-- No move writes the parameters, and only a Reset the address (R30, R34). -/
theorem move_cfg_devAddr {e : Event} {s t : State} (hm : Move s e t) :
    t.cfg = s.cfg ∧ (e ≠ .reset → t.devAddr = s.devAddr) := by
  cases hm with
  | cmd _ hc | commit _ _ hc =>
    obtain ⟨hcfg, haddr⟩ := commandMove_cfg_devAddr hc
    exact ⟨hcfg, fun _ => haddr⟩
  | @completion rdata hbus =>
    have hreq := keepsRequest_complete (rdata := rdata) hbus
    exact ⟨hreq.cfg, fun _ => hreq.devAddr⟩
  | reset => exact ⟨rfl, fun he => absurd rfl he⟩
  | noRow | spurious | failure | latch | edgeService | notDue | deliver | deliverAndServe | tickService | idleTick |
      builderNew | builderOp | commitNothing => exact ⟨rfl, fun _ => rfl⟩

/-- Settles O41: no move writes them, and what a step puts out is appended. -/
theorem parametersAndPastOutputsAreFixed : Obligations.ParametersAndPastOutputsAreFixed := by
  intro s t h
  obtain ⟨hcfg, haddr⟩ := move_cfg_devAddr (move_of_step h)
  obtain ⟨o, hout, _⟩ := issuesOnEntry_step h
  exact ⟨hcfg, haddr, o, hout⟩

end Sys2Proof.Machine
end

section
/-! What a step notifies (spec/40_engine_common.md R128), and what becomes of an interrupt (spec/60_exceptions.md R238). -/

namespace Sys2Proof.Machine

/-! ## Notifications -/

/-- From `s` to `t` outputs are only added, and no notification is among them. -/
def Silent (s t : State) : Prop := ∃ o, t.out = s.out ++ o ∧ o.any isNotification = false

theorem silent_of_out_eq {s t : State} (h : t.out = s.out) : Silent s t := ⟨[], by simp [h], rfl⟩

/-- A further output that is no notification changes nothing. -/
theorem Silent.emit {s t : State} {o : Output} (h : Silent s t) (ho : isNotification o = false) : Silent s (t.emit o) := by
  obtain ⟨os, hout, hos⟩ := h
  exact ⟨os ++ [o], by simp [hout], by simp [hos, ho]⟩

theorem Silent.trans {s t u : State} (h : Silent s t) (h' : Silent t u) : Silent s u := by
  obtain ⟨o, hout, ho⟩ := h
  obtain ⟨o', hout', ho'⟩ := h'
  exact ⟨o ++ o', by simp [hout, hout'], by simp only [List.any_append, ho, ho', Bool.or_false]⟩

/-- A command puts out its response and at most a request. -/
theorem silent_of_commandMove {i : Instr} {s t : State} (hm : CommandMove i s t) : Silent s t := by
  have hs : Silent s s := silent_of_out_eq rfl
  cases hm with
  | invalidPin | busy | handler => exact hs.emit rfl
  | start => exact (hs.emit (o := .resp accepted) rfl).emit (o := .busReq _) rfl

/-- A successful completion puts out at most a request (R124). -/
theorem silent_complete {rdata : Word} {s : State} (hbus : busOutstanding s.state = true) : Silent s (complete rdata s) := by
  obtain ⟨n, _, ⟨v, heq, _⟩ | ⟨r, e, heq, _⟩ | ⟨r, e, v, heq, _⟩⟩ := complete_cases rdata s hbus <;> rw [heq]
  · exact silent_of_out_eq rfl
  · exact ⟨[_], rfl, rfl⟩
  · exact ⟨[_], rfl, rfl⟩

/-- A move is silent, or it is `Notify` in `SignalDone`, which delivers the notification and then is silent (R128). -/
theorem move_silent_or_delivers {e : Event} {s t : State} (hm : Move s e t) :
    Silent s t ∨ (s.state = .signalDone ∧ e = .notify ∧ Silent (deliver s) t) := by
  have hs : Silent s s := silent_of_out_eq rfl
  cases hm with
  | cmd _ ht => exact .inl (silent_of_commandMove ht)
  | noRow | commitNothing => exact .inl (hs.emit rfl)
  | completion hbus => exact .inl (silent_complete hbus)
  | edgeService | tickService => exact .inl (hs.emit (o := .busReq _) rfl)
  | deliver hdone => exact .inr ⟨hdone, rfl, silent_of_out_eq rfl⟩
  | deliverAndServe hdone => exact .inr ⟨hdone, rfl, (silent_of_out_eq rfl : Silent (deliver s) (deliver s)).emit rfl⟩
  | commit _ _ hu =>
    have hu := silent_of_commandMove hu
    exact .inl (Silent.emit (s := s) hu rfl)
  | spurious | failure | latch | notDue | idleTick | reset | builderNew | builderOp => exact .inl (silent_of_out_eq rfl)

/-- Outputs without a notification, as a filter says it. -/
theorem filter_isNotification_eq_nil {o : List Output} (h : o.any isNotification = false) : o.filter isNotification = [] := by
  simpa [List.filter_eq_nil_iff] using h

/-- Settles O39: only `Notify` in `SignalDone` is not silent, and it delivers one notification if any. -/
theorem onlyNotifyNotifies : Obligations.OnlyNotifyNotifies := by
  intro s t h
  obtain ⟨o, hout, ho⟩ | ⟨hdone, hev, o, hout, ho⟩ := move_silent_or_delivers (move_of_step h)
  · have hnew : newOutputs s t = o := by simp [newOutputs, hout]
    rw [hnew, filter_isNotification_eq_nil ho, ho]
    exact ⟨Nat.zero_le _, nofun⟩
  · have hnew : newOutputs s t = (notification { s with input := s.input.tail }).toList ++ o := by simp [newOutputs, hout]
    refine ⟨?_, fun _ => ⟨hdone, hev⟩⟩
    rw [hnew, List.filter_append, filter_isNotification_eq_nil ho, List.append_nil]
    exact (List.length_filter_le ..).trans (by cases notification _ <;> simp)

/-! ## The interrupt latch -/

/-- `t` is reached from `s` by a ServiceStart: its read of `IN` is put out. -/
def StartsService (s t : State) : Prop :=
  s.state ≠ .readInputForServicing ∧ t.state = .readInputForServicing ∧ t.kind = .service ∧
    ∃ o, t.out = s.out ++ o ∧ .busReq (readReq s .input) ∈ o

/-- A command leaves the latch. -/
theorem commandMove_irqPending {i : Instr} {s t : State} (hm : CommandMove i s t) : t.irqPending = s.irqPending := by
  cases hm <;> rfl

/-- A completion leaves the latch. -/
theorem complete_irqPending {rdata : Word} {s : State} (hbus : busOutstanding s.state = true) :
    (complete rdata s).irqPending = s.irqPending := by
  obtain ⟨n, _, ⟨v, heq, _⟩ | ⟨r, e, heq, _⟩ | ⟨r, e, v, heq, _⟩⟩ := complete_cases rdata s hbus <;> rw [heq] <;> rfl

/-- A move but a Reset starts a service, or it latches an edge, or it leaves the latch as it was (R238). -/
theorem move_irqPending {e : Event} {s t : State} (hm : Move s e t) (he : e ≠ .reset) :
    StartsService s t ∨ (if e = .irqEdge then t.irqPending = true else t.irqPending = s.irqPending) := by
  cases hm with
  | edgeService hidle | tickService _ hidle => exact .inl ⟨by simp [hidle], rfl, rfl, _, rfl, List.mem_singleton_self _⟩
  | deliverAndServe hdone =>
    refine .inl ⟨by simp [hdone], rfl, rfl, (notification s).toList ++ [.busReq (readReq s .input)], ?_, by simp⟩
    simp [readReq]
  | latch => exact .inr rfl
  | cmd _ hc | commit _ _ hc =>
    have hc := commandMove_irqPending hc
    exact .inr hc
  | completion hbus => exact .inr (complete_irqPending hbus)
  | reset => exact absurd rfl he
  | noRow | spurious | failure | notDue | deliver | idleTick | builderNew | builderOp | commitNothing => exact .inr rfl

/-- Settles O42: a step that starts no service leaves a set latch set, and sets it on an edge. -/
theorem noInterruptIsDropped : Obligations.NoInterruptIsDropped := by
  intro s t h he hirq
  obtain ⟨hs, ht, hk, o, hout, hmem⟩ | hlatch := move_irqPending (move_of_step h) he
  · have hnew : newOutputs s t = o := by simp [newOutputs, hout]
    exact .inr ⟨hs, ht, hk, hnew ▸ hmem⟩
  · left
    split at hlatch
    next => exact hlatch
    next hedge => exact hlatch.trans (hirq.resolve_right hedge)

end Sys2Proof.Machine
end

section
/-! A hung bus (spec/70_reset_and_hazards.md R283): without a completion or a Reset the Engine stays where it waits. -/

namespace Sys2Proof.Machine

/-- The table leads out of a waiting state only on a completion and on a Reset. -/
theorem tableNext_of_busOutstanding {e : Event} {s : State} (hbus : busOutstanding s.state = true)
    (hcompl : ∀ ok r, e ≠ .busDone ok r) (hreset : e ≠ .reset) : tableNext e s = s.state := by
  have hidle := ne_idle_of_busOutstanding hbus
  have hdone := ne_signalDone_of_busOutstanding hbus
  cases e with
  | busDone ok r => exact absurd rfl (hcompl ok r)
  | reset => exact absurd rfl hreset
  | builderNew | builderOp => rfl
  | cmd | irqEdge => exact if_neg hidle
  | notify => exact if_neg hdone
  | pollTick => simp [tableNext, hidle]
  | builderCommit n => cases hb : s.builders[n]? <;> simp [tableNext, hidle, hb]

/-- The checks of a command word tell a busy Engine from an idle one and no more. -/
theorem checksOfR122_of_busy {s s' : State} (hs : s.state ≠ .idle) (hs' : s'.state ≠ .idle) (w : Command) :
    checksOfR122 w s = checksOfR122 w s' := by
  simp only [checksOfR122, if_pos hs, if_pos hs']

/-- No command passes the checks of a busy Engine. -/
theorem checksOfR122_not_accepted {s : State} (hs : s.state ≠ .idle) (w : Command) :
    (checksOfR122 w s).accepted = false := by
  unfold checksOfR122
  rw [if_pos hs]
  split
  · rfl
  · split <;> rfl

/-- One event that does not move a waiting Engine: a command is rejected, an edge is latched (R283). -/
theorem step_parks {s : State} {e : Event} {rest : List Event} (hbus : busOutstanding s.state = true)
    (hpark : parks e = true) (hin : s.input = e :: rest) :
    step s = .next { s with
      input := rest, irqPending := s.irqPending || isIrqEdge e, out := s.out ++ (parkedOutput e).toList } := by
  have hidle := ne_idle_of_busOutstanding hbus
  have hdone := ne_signalDone_of_busOutstanding hbus
  have hstay : { s with input := rest } =
      { s with input := rest, irqPending := s.irqPending || false, out := s.out ++ [] } := by simp
  cases e with
  | cmd w =>
    obtain ⟨hrejected, _⟩ := commandChecksInOrder s w rest hin
    rw [hrejected (checksOfR122_not_accepted hidle w),
      checksOfR122_of_busy (s' := { State.reset with state := .readDirection }) hidle nofun w]
    simp [isIrqEdge, parkedOutput]
  | irqEdge =>
    rw [step_irqEdge_of_busy hidle hin]
    simp [isIrqEdge, parkedOutput]
  | notify =>
    rw [step_cons hin, handle, notifyStep_of_not_due (s := { s with input := rest }) hdone, hstay]
    rfl
  | pollTick =>
    have hno : pollTickStep { s with input := rest } = { s with input := rest } := by simp [pollTickStep, busy, hidle]
    rw [step_cons hin, handle, hno, hstay]
    rfl
  | busDone | reset | builderNew | builderOp | builderCommit => cases hpark

/-- Any number of such events. -/
theorem run_parks (evs : List Event) (s : State) (rest : List Event) (hpark : evs.all parks = true)
    (hbus : busOutstanding s.state = true) (hin : s.input = evs ++ rest) :
    Sys2Proof.core.run evs.length s = .next { s with
      input := rest, irqPending := s.irqPending || evs.any isIrqEdge, out := s.out ++ evs.filterMap parkedOutput } := by
  induction evs generalizing s with
  | nil =>
    have hs : s = { s with input := rest } := by rw [← List.nil_append rest, ← hin]
    refine (run_zero s).trans (congrArg _ ?_)
    simpa using hs
  | cons e evs ih =>
    obtain ⟨he, hevs⟩ : parks e = true ∧ evs.all parks = true := by simpa using hpark
    refine run_of_step (step_parks hbus he hin) ?_
    refine Eq.trans (ih _ hevs hbus rfl) ?_
    cases ho : parkedOutput e <;> simp [ho, Bool.or_assoc]

/-- Settles O43: the run event by event, and the table for the steps that leave a waiting state. -/
theorem hungBusParksTheEngine : Obligations.HungBusParksTheEngine :=
  ⟨run_parks, fun s t hbus hcompl hreset h =>
    (stepsFollowTheTransitionTable s t h).trans (tableNext_of_busOutstanding hbus hcompl hreset)⟩

end Sys2Proof.Machine
end

section
/-! Every sequence ends (spec/70_reset_and_hazards.md R296, spec/40_engine_common.md R128): each completion brings the Engine nearer
to `SignalDone`, silently, and the `Notify` there delivers once. -/

namespace Sys2Proof.Machine

/-- How many completions at most lead from a state to `SignalDone`. -/
def completionsLeft : EngineState → Nat
  | .idle => 0
  | .readDirection => 2
  | .writeDirection => 1
  | .readOutputForWrite => 2
  | .writeOutputForWrite => 1
  | .readOutputForToggle => 2
  | .writeOutputForToggle => 1
  | .readOutputForBulkSet => 2
  | .writeOutputForBulkSet => 1
  | .readDirectionForBulkSet => 4
  | .writeDirectionForBulkSet => 3
  | .readInterruptDirection => 4
  | .writeInterruptDirection => 3
  | .readInterruptMask => 2
  | .writeInterruptMask => 1
  | .readInputForServicing => 2
  | .readInterruptStatus => 1
  | .signalDone => 0

theorem completionsLeft_le (e : EngineState) : completionsLeft e ≤ 4 := by cases e <;> decide

theorem completionsLeft_pos {e : EngineState} (hbus : busOutstanding e = true) : 0 < completionsLeft e := by
  cases e
  case idle | signalDone => cases hbus
  all_goals decide

/-- A successful completion takes at least one off the count. -/
theorem completionsLeft_tableOk {rdata : Word} {s : State} (hbus : busOutstanding s.state = true) :
    completionsLeft (tableOk rdata s) < completionsLeft s.state := by
  unfold tableOk
  cases hst : s.state <;> rw [hst] at hbus
  case idle | signalDone => cases hbus
  case readDirection | readOutputForWrite | readInputForServicing =>
    dsimp only
    split <;> decide
  all_goals exact Nat.lt_succ_self _

/-- The sequence is not over before its `Notify`: the bus is awaited, or the result is staged. -/
def InSequence (s : State) : Prop := s.state = .signalDone ∨ busOutstanding s.state = true

/-- The sequence of `s` goes on in `t`: the same request and latch, and nothing notified. -/
structure Continues (s t : State) : Prop where
  kind : t.kind = s.kind
  cbValid : t.cbValid = s.cbValid
  irqPending : t.irqPending = s.irqPending
  cfg : t.cfg = s.cfg
  silent : Silent s t
  inSequence : InSequence t

theorem Continues.refl {s : State} (h : InSequence s) : Continues s s := ⟨rfl, rfl, rfl, rfl, silent_of_out_eq rfl, h⟩

theorem Continues.trans {s t u : State} (h : Continues s t) (h' : Continues t u) : Continues s u where
  kind := h'.kind.trans h.kind
  cbValid := h'.cbValid.trans h.cbValid
  irqPending := h'.irqPending.trans h.irqPending
  cfg := h'.cfg.trans h.cfg
  silent := h.silent.trans h'.silent
  inSequence := h'.inSequence

/-- A completion carries the sequence on and takes one off the count, unless the count is 0 (R124, R125). -/
theorem continues_busDone {s : State} (h : InSequence s) (ok : Bool) (rdata : Word) :
    Continues s (busDoneStep ok rdata s) ∧
      completionsLeft (busDoneStep ok rdata s).state ≤ completionsLeft s.state - 1 := by
  obtain ⟨hbus, heq⟩ | ⟨_, _, heq⟩ | ⟨hbus, _, heq⟩ := busDoneStep_cases ok rdata s <;> rw [heq]
  · have hdone : s.state = .signalDone := h.resolve_right (by simp [hbus])
    exact ⟨.refl h, by simp [hdone, completionsLeft]⟩
  · exact ⟨⟨rfl, rfl, rfl, rfl, silent_of_out_eq rfl, .inl rfl⟩, Nat.zero_le _⟩
  · have hreq := keepsRequest_complete (rdata := rdata) hbus
    refine ⟨⟨hreq.kind, hreq.cbValid, complete_irqPending hbus, hreq.cfg, silent_complete hbus,
      complete_ends_or_waits hbus⟩, ?_⟩
    rw [complete_state]
    exact Nat.le_sub_one_of_lt (completionsLeft_tableOk hbus)

/-- A completion consumes no further event. -/
theorem busDoneStep_input (ok : Bool) (rdata : Word) (s : State) : (busDoneStep ok rdata s).input = s.input := by
  obtain ⟨_, heq⟩ | ⟨_, _, heq⟩ | ⟨hbus, _, heq⟩ := busDoneStep_cases ok rdata s <;> rw [heq]
  · rfl
  · obtain ⟨n, _, ⟨v, heq, _⟩ | ⟨r, e, heq, _⟩ | ⟨r, e, v, heq, _⟩⟩ := complete_cases rdata s hbus <;> rw [heq] <;> rfl

/-- The step of a completion, successful or not. -/
theorem step_busDone_continues {s : State} {ok : Bool} {rdata : Word} {rest : List Event} (h : InSequence s)
    (hin : s.input = .busDone ok rdata :: rest) :
    ∃ t, step s = .next t ∧ t.input = rest ∧ Continues s t ∧ completionsLeft t.state ≤ completionsLeft s.state - 1 := by
  obtain ⟨⟨hkind, hvalid, hirq, hcfg, hsilent, hseq⟩, hleft⟩ := continues_busDone (s := { s with input := rest }) h ok rdata
  exact ⟨_, step_cons hin, busDoneStep_input .., ⟨hkind, hvalid, hirq, hcfg, hsilent, hseq⟩, hleft⟩

/-- After four completions every sequence has its result staged (R296). -/
theorem run_four_completions {s : State} {k1 k2 k3 k4 : Bool} {r1 r2 r3 r4 : Word} {rest : List Event} (h : InSequence s)
    (hin : s.input = .busDone k1 r1 :: .busDone k2 r2 :: .busDone k3 r3 :: .busDone k4 r4 :: rest) :
    ∃ t : State, (∀ k, Sys2Proof.core.run (k + 4) s = Sys2Proof.core.run k t) ∧ t.input = rest ∧ Continues s t ∧
      t.state = .signalDone := by
  obtain ⟨t1, hstep1, hin1, hc1, hleft1⟩ := step_busDone_continues h hin
  obtain ⟨t2, hstep2, hin2, hc2, hleft2⟩ := step_busDone_continues hc1.inSequence hin1
  obtain ⟨t3, hstep3, hin3, hc3, hleft3⟩ := step_busDone_continues hc2.inSequence hin2
  obtain ⟨t4, hstep4, hin4, hc4, hleft4⟩ := step_busDone_continues hc3.inSequence hin3
  refine ⟨t4, fun k => ?_, hin4, hc1.trans (hc2.trans (hc3.trans hc4)), hc4.inSequence.resolve_right fun hbus => ?_⟩
  · exact run_of_step hstep1 (run_of_step hstep2 (run_of_step hstep3 (run_of_step hstep4 rfl)))
  · have hpos := completionsLeft_pos hbus
    have hfour := completionsLeft_le s.state
    omega

/-! ## The `Notify` -/

/-- `Notify` in `SignalDone` returns to `Idle` or goes on into a service, and delivers before it is silent (R126). -/
theorem notifyStep_of_signalDone {s : State} (hdone : s.state = .signalDone) :
    (notifyStep s).state = stateAfterNotify s ∧ (notifyStep s).input = s.input ∧ Silent (deliver s) (notifyStep s) := by
  obtain ⟨h, _⟩ | ⟨_, hirq, hpol, heq⟩ | ⟨_, hirq, heq⟩ := notifyStep_cases s
  · exact absurd hdone h
  · rw [heq, stateAfterNotify, if_pos ⟨hirq, hpol⟩]
    exact ⟨rfl, rfl, [_], rfl, rfl⟩
  · rw [heq, stateAfterNotify, if_neg hirq]
    exact ⟨rfl, rfl, silent_of_out_eq rfl⟩

/-- Outputs without a notification hold no `Done`. -/
theorem filter_isDone_eq_nil {o : List Output} (h : o.any isNotification = false) : o.filter isDone = [] := by
  refine List.filter_eq_nil_iff.mpr fun x hx hdone => ?_
  have hno := List.any_eq_false.mp h x hx
  cases x <;> simp [isDone] at hdone
  exact hno rfl

/-- What is delivered holds one `Done` exactly for a sequence command with a target (R126). -/
theorem filter_isDone_notification (s : State) :
    ((notification s).toList.filter isDone).length = if isSequenceKind s.kind && s.cbValid then 1 else 0 := by
  rw [notification_toList]
  cases hdone : isSequenceKind s.kind && s.cbValid with
  | true =>
    rw [if_pos (Bool.and_eq_true .. ▸ hdone)]
    rfl
  | false =>
    rw [if_neg (Bool.and_eq_true .. ▸ Bool.eq_false_iff.mp hdone)]
    split <;> rfl

/-- Settles O44: four silent completions to `SignalDone`, and the `Notify` that delivers there. -/
theorem everySequenceEndsWithOneDone : Obligations.EverySequenceEndsWithOneDone := by
  intro s k1 k2 k3 k4 r1 r2 r3 r4 rest hbus hin
  obtain ⟨t, hrun, htin, ⟨hkind, hvalid, hirq, hcfg, ⟨o, hout, ho⟩, _⟩, hdone⟩ := run_four_completions (.inr hbus) hin
  obtain ⟨hstate, hinput, o', hout', ho'⟩ := notifyStep_of_signalDone (s := { t with input := rest }) hdone
  have hnotify : step t = .next (notifyStep { t with input := rest }) := step_cons htin
  refine ⟨_, o ++ (notification t).toList ++ o', (hrun 1).trans (run_of_step hnotify (run_zero _)),
    hinput, ?state, ?out, ?count⟩
  case state => rw [hstate, stateAfterNotify, stateAfterNotify, hirq, hcfg]
  case out =>
    calc (notifyStep { t with input := rest }).out
        = t.out ++ (notification t).toList ++ o' := hout'
      _ = s.out ++ (o ++ (notification t).toList ++ o') := by simp only [hout, List.append_assoc]
  case count =>
    rw [List.filter_append, List.filter_append, filter_isDone_eq_nil ho, filter_isDone_eq_nil ho', List.nil_append,
      List.append_nil, filter_isDone_notification, hkind, hvalid]

end Sys2Proof.Machine
end

section
/-! Noninterference of the dead registers (spec/10_state.md R33 (f)): a step from a state and the same step from that state with its
dead registers at zero end in states that differ in dead registers only. -/

namespace Sys2Proof.Machine

/-! ## States that agree on what is live -/

/-- The state with every register that can be dead at zero. -/
def bare (s : State) : State :=
  { s with
    pins := 0#16, pa := 0#16, pb := 0#16, cbTag := 0#8, resStatus := .ok, resValue := 0#16, inSnapshot := 0#16, ihTag := 0#8 }

/-- `t` agrees with `s` in every register live in `s`. -/
structure AgreesLive (s t : State) : Prop where
  bareEq : bare s = bare t
  pins : pinsLive s = true → s.pins = t.pins
  pa : paLive s = true → s.pa = t.pa
  pb : pbLive s = true → s.pb = t.pb
  cbTag : s.cbValid = true → s.cbTag = t.cbTag
  result : resultLive s = true → s.resStatus = t.resStatus ∧ s.resValue = t.resValue
  inSnapshot : snapshotLive s = true → s.inSnapshot = t.inSnapshot
  ihTag : s.ihValid = true → s.ihTag = t.ihTag

/-- A value that is kept where it is live. -/
theorem ite_eq_of_live {α : Type} {c : Bool} {a b z : α} (h : c = true → a = b) :
    (if c then a else z) = if c then b else z := by
  cases c
  · rfl
  · rw [h rfl]

/-- Such states agree in all that is read of no register that can be dead. -/
theorem AgreesLive.apply_eq {α : Type} {s t : State} (h : AgreesLive s t) (f : State → α)
    (hf : ∀ u, f (bare u) = f u) : f t = f s := by
  rw [← hf t, ← hf s, h.bareEq]

/-- A snapshot is judged live alike. -/
theorem AgreesLive.snapshotLive_eq {s t : State} (h : AgreesLive s t) : snapshotLive t = snapshotLive s := by
  have hkind := h.apply_eq State.kind fun _ => rfl
  have hstate := h.apply_eq State.state fun _ => rfl
  by_cases hdone : s.state = .signalDone
  · obtain ⟨hstatus, _⟩ := h.result (decide_eq_true hdone)
    rw [snapshotLive, snapshotLive, hkind, hstate, hstatus]
  · simp [snapshotLive, hkind, hstate, hdone]

/-- Such states differ in dead registers only. -/
theorem AgreesLive.scrub_eq {s t : State} (h : AgreesLive s t) : scrub s = scrub t := by
  have hpins := h.apply_eq pinsLive fun _ => rfl
  have hpa := h.apply_eq paLive fun _ => rfl
  have hpb := h.apply_eq pbLive fun _ => rfl
  have hvalid := h.apply_eq State.cbValid fun _ => rfl
  have hres := h.apply_eq resultLive fun _ => rfl
  have hih := h.apply_eq State.ihValid fun _ => rfl
  have hscrub (u : State) : scrub u = { bare u with
    pins := if pinsLive u then u.pins else 0#16
    pa := if paLive u then u.pa else 0#16
    pb := if pbLive u then u.pb else 0#16
    cbTag := if u.cbValid then u.cbTag else 0#8
    resStatus := if resultLive u then u.resStatus else .ok
    resValue := if resultLive u then u.resValue else 0#16
    inSnapshot := if snapshotLive u then u.inSnapshot else 0#16
    ihTag := if u.ihValid then u.ihTag else 0#8 } := rfl
  rw [hscrub s, hscrub t, h.bareEq, hpins, hpa, hpb, hvalid, hres, h.snapshotLive_eq, hih, ite_eq_of_live h.pins,
    ite_eq_of_live h.pa, ite_eq_of_live h.pb, ite_eq_of_live h.cbTag, ite_eq_of_live fun hl => (h.result hl).1,
    ite_eq_of_live fun hl => (h.result hl).2, ite_eq_of_live h.inSnapshot, ite_eq_of_live h.ihTag]

/-! ## What `scrub` leaves -/

section
variable {s : State}

theorem scrub_pins (h : pinsLive s = true) : s.pins = (scrub s).pins := (if_pos h).symm
theorem scrub_pa (h : paLive s = true) : s.pa = (scrub s).pa := (if_pos h).symm
theorem scrub_pb (h : pbLive s = true) : s.pb = (scrub s).pb := (if_pos h).symm
theorem scrub_cbTag (h : s.cbValid = true) : s.cbTag = (scrub s).cbTag := (if_pos h).symm
theorem scrub_resStatus (h : resultLive s = true) : s.resStatus = (scrub s).resStatus := (if_pos h).symm
theorem scrub_resValue (h : resultLive s = true) : s.resValue = (scrub s).resValue := (if_pos h).symm
theorem scrub_inSnapshot (h : snapshotLive s = true) : s.inSnapshot = (scrub s).inSnapshot := (if_pos h).symm
theorem scrub_ihTag (h : s.ihValid = true) : s.ihTag = (scrub s).ihTag := (if_pos h).symm

/-- Nothing live is lost. -/
theorem agreesLive_scrub (s : State) : AgreesLive s (scrub s) :=
  ⟨rfl, scrub_pins, scrub_pa, scrub_pb, scrub_cbTag, fun h => ⟨scrub_resStatus h, scrub_resValue h⟩, scrub_inSnapshot,
    scrub_ihTag⟩

/-- Putting out an output neither reads nor kills a register. -/
theorem scrub_emit_scrub (o : Output) : scrub (s.emit o) = scrub ((scrub s).emit o) :=
  congrArg (State.emit · o) (agreesLive_scrub s).scrub_eq

/-- Nor does a change of the Builders. -/
theorem scrub_withBuilders_scrub (bs : List Builder) :
    scrub { s with builders := bs } = scrub { scrub s with builders := bs } :=
  congrArg (fun u : State => { u with builders := bs }) (agreesLive_scrub s).scrub_eq

end

/-! ## The operations -/

section
variable {s : State}

/-- The acceptance of a sequence command writes what its kind reads, and the target it validates (R123). -/
theorem agreesLive_startSequence {i : Instr} {k : Kind} (hk : sequenceKind i = some k) :
    AgreesLive (startSequence k (completionTarget i) (firstRead k) (firstState k) (loadPending i s))
      (startSequence k (completionTarget i) (firstRead k) (firstState k) (loadPending i (scrub s))) where
  bareEq := rfl
  pins := by
    cases i <;> cases hk
    case bulkRead => nofun
    all_goals exact fun _ => rfl
  pa := by
    cases i <;> cases hk
    case toggle | bulkToggle | bulkRead => nofun
    all_goals exact fun _ => rfl
  pb := by
    cases i <;> cases hk
    case bulkWrite | bulkSetInt => exact fun _ => rfl
    all_goals nofun
  cbTag h := by
    obtain ⟨tag, htag⟩ := Option.isSome_iff_exists.mp h
    simp [htag]
  result := by cases i <;> cases hk <;> nofun
  inSnapshot := by cases i <;> cases hk <;> nofun
  ihTag := scrub_ihTag

/-- The handler's tag is live while a handler is registered (R200, R201). -/
theorem agreesLive_handler {valid : Bool} {tag tag' : Tag} (htag : valid = true → tag = tag') :
    AgreesLive { s with ihValid := valid, ihTag := tag } { scrub s with ihValid := valid, ihTag := tag' } :=
  ⟨rfl, scrub_pins, scrub_pa, scrub_pb, scrub_cbTag, fun h => ⟨scrub_resStatus h, scrub_resValue h⟩, scrub_inSnapshot, htag⟩

/-- A service reads none of the registers a command loads (R232). -/
theorem AgreesLive.serviceStart {t u : State} (h : AgreesLive t u) : AgreesLive (serviceStart t) (serviceStart u) :=
  ⟨congrArg Machine.serviceStart h.bareEq, nofun, nofun, nofun, nofun, nofun, nofun, h.ihTag⟩

/-- After a Reset the free values stand in dead registers only (R270). -/
theorem agreesLive_resetStep : AgreesLive (resetStep s) (resetStep (scrub s)) :=
  ⟨rfl, nofun, nofun, nofun, nofun, nofun, nofun, nofun⟩

/-- Latching an edge reads no register. -/
theorem agreesLive_latch : AgreesLive { s with irqPending := true } { scrub s with irqPending := true } :=
  ⟨rfl, scrub_pins, scrub_pa, scrub_pb, scrub_cbTag, fun h => ⟨scrub_resStatus h, scrub_resValue h⟩, scrub_inSnapshot,
    scrub_ihTag⟩

/-- A service's report is read from live registers; a failed one reports no snapshot (R126, R237). -/
theorem serviceReport_scrub (hdone : s.state = .signalDone) (hk : s.kind = .service) (hih : s.ihValid = true) :
    serviceReport (scrub s) = serviceReport s := by
  have hlive : resultLive s = true := decide_eq_true hdone
  rw [serviceReport, serviceReport, ← scrub_resStatus hlive, ← scrub_resValue hlive, ← scrub_ihTag hih]
  cases hok : s.resStatus with
  | ok => rw [← scrub_inSnapshot (by simp [snapshotLive, hk, hdone, hok])]
  | busFail => rfl

/-- What is delivered is read from live registers (R126). -/
theorem notification_scrub (hdone : s.state = .signalDone) : notification (scrub s) = notification s := by
  have hlive : resultLive s = true := decide_eq_true hdone
  have hkind : (scrub s).kind = s.kind := rfl
  have hvalid : (scrub s).cbValid = s.cbValid := rfl
  have hih : (scrub s).ihValid = s.ihValid := rfl
  rw [notification, notification, hkind, hvalid, hih, ← scrub_resStatus hlive, ← scrub_resValue hlive]
  split
  next hseq =>
    obtain ⟨_, hv⟩ := Bool.and_eq_true_iff.mp hseq
    rw [← scrub_cbTag hv]
  · split
    next hservice =>
      obtain ⟨hk, hv⟩ := Bool.and_eq_true_iff.mp hservice
      rw [serviceReport_scrub hdone (of_decide_eq_true hk) hv]
    · rfl

/-- Delivering leaves only the handler slot live. -/
theorem agreesLive_deliver (hdone : s.state = .signalDone) : AgreesLive (deliver s) (deliver (scrub s)) :=
  ⟨by rw [deliver, deliver, notification_scrub hdone]; rfl, nofun, nofun, nofun, nofun, nofun, nofun, scrub_ihTag⟩

/-- Staging a result: the snapshot is live only for a successful service. -/
theorem agreesLive_stage {c : Config.Status} {v n n' : Word} (hn : s.kind = .service → c = .ok → n = n') :
    AgreesLive (stage c v { s with inSnapshot := n }) (stage c v { scrub s with inSnapshot := n' }) where
  bareEq := rfl
  pins := nofun
  pa := nofun
  pb := nofun
  cbTag := scrub_cbTag
  result _ := ⟨rfl, rfl⟩
  inSnapshot h := by
    obtain ⟨hk, hc⟩ := Bool.and_eq_true_iff.mp h
    exact hn (of_decide_eq_true hk) (of_decide_eq_true hc)
  ihTag := scrub_ihTag

/-- Going on to a further wait: what the kind reads stays live, the snapshot is live only for a service. -/
theorem agreesLive_wait {o : Output} {e : EngineState} {n n' : Word} (hbus : busOutstanding s.state = true)
    (he : busOutstanding e = true) (hn : s.kind = .service → n = n') :
    AgreesLive ((State.emit { s with inSnapshot := n } o).goto e) ((State.emit { scrub s with inSnapshot := n' } o).goto e) where
  bareEq := rfl
  pins h := scrub_pins (s := s) (Bool.and_eq_true_iff.mpr ⟨hbus, (Bool.and_eq_true_iff.mp h).right⟩)
  pa h := scrub_pa (s := s) (Bool.and_eq_true_iff.mpr ⟨hbus, (Bool.and_eq_true_iff.mp h).right⟩)
  pb h := scrub_pb (s := s) (Bool.and_eq_true_iff.mpr ⟨hbus, (Bool.and_eq_true_iff.mp h).right⟩)
  cbTag := scrub_cbTag
  result h := absurd (of_decide_eq_true h) (ne_signalDone_of_busOutstanding he)
  inSnapshot h := by
    obtain ⟨hk, _⟩ := Bool.and_eq_true_iff.mp h
    exact hn (of_decide_eq_true hk)
  ihTag := scrub_ihTag

/-- A service is pending only in its two waiting states and in `SignalDone` (R21). -/
theorem ne_service_of_kindFits {e : EngineState} {k : Kind} (h : kindFits e k = true) (hin : e ≠ .readInputForServicing)
    (hstat : e ≠ .readInterruptStatus) (hdone : e ≠ .signalDone) : k ≠ .service := by
  rintro rfl
  cases e
  case readInputForServicing => exact hin rfl
  case readInterruptStatus => exact hstat rfl
  case signalDone => exact hdone rfl
  all_goals cases h

/-- A completion that ends a command's sequence reads nothing. -/
theorem agreesLive_complete_lastWrite {rdata : Word} (hlast : IsLastWrite s.state) (hk : s.kind ≠ .service) :
    AgreesLive (complete rdata s) (complete rdata (scrub s)) := by
  rw [complete_lastWrite hlast, complete_lastWrite (s := scrub s) hlast]
  exact agreesLive_stage (n := s.inSnapshot) (n' := (scrub s).inSnapshot) fun h => absurd h hk

/-- Going on with an operation that is the same for both. -/
theorem agreesLive_wait_of_eq {o o' : Output} {e : EngineState} (ho : o = o') (hbus : busOutstanding s.state = true)
    (he : busOutstanding e = true) (hk : s.kind ≠ .service) :
    AgreesLive ((s.emit o).goto e) (((scrub s).emit o').goto e) :=
  ho ▸ agreesLive_wait (n := s.inSnapshot) (n' := (scrub s).inSnapshot) hbus he fun h => absurd h hk

/-- Writing merged bits back reads live masks. -/
theorem agreesLive_writeBack {r : RemoteReg} {e : EngineState} {rdata desired desired' : Word} (hpins : pinsLive s = true)
    (hdesired : desired = desired') (hbus : busOutstanding s.state = true) (he : busOutstanding e = true)
    (hk : s.kind ≠ .service) :
    AgreesLive ((issueWrite r (merge rdata s.pins desired) s).goto e)
      ((issueWrite r (merge rdata (scrub s).pins desired') (scrub s)).goto e) := by
  rw [← scrub_pins hpins, hdesired]
  exact agreesLive_wait_of_eq rfl hbus he hk

/-- The read of a single-pin command decides by live masks (R151, R155). -/
theorem agreesLive_writeIfChanged {r : RemoteReg} {e : EngineState} {rdata : Word} (hbus : busOutstanding s.state = true)
    (he : busOutstanding e = true) (hpins : pinsLive s = true) (hpa : paLive s = true) (hk : s.kind ≠ .service) :
    AgreesLive (writeIfChanged r e rdata s) (writeIfChanged r e rdata (scrub s)) := by
  have hmerge : merge rdata (scrub s).pins (scrub s).pa = merge rdata s.pins s.pa := by
    rw [← scrub_pins hpins, ← scrub_pa hpa]
  by_cases hsame : merge rdata s.pins s.pa = rdata
  · rw [writeIfChanged_of_eq hsame, writeIfChanged_of_eq (hmerge.trans hsame)]
    exact agreesLive_stage (n := s.inSnapshot) (n' := (scrub s).inSnapshot) fun h => absurd h hk
  · rw [writeIfChanged_of_ne hsame, writeIfChanged_of_ne (hmerge ▸ hsame)]
    exact agreesLive_writeBack hpins (scrub_pa hpa) hbus he hk

/-- A successful completion reads live registers only (R124): what each state's kind was loaded with. -/
theorem agreesLive_complete {rdata : Word} (hbus : busOutstanding s.state = true) (hfits : kindFits s.state s.kind = true) :
    AgreesLive (complete rdata s) (complete rdata (scrub s)) := by
  have hservice := ne_service_of_kindFits hfits
  have hpins (hk : s.kind ≠ .none ∧ s.kind ≠ .bulkRead ∧ s.kind ≠ .service) : pinsLive s = true :=
    Bool.and_eq_true_iff.mpr ⟨hbus, decide_eq_true hk⟩
  have hpa (hk : s.kind = .mode ∨ s.kind = .write ∨ s.kind = .bulkWrite ∨ s.kind = .bulkSetInt) : paLive s = true :=
    Bool.and_eq_true_iff.mpr ⟨hbus, decide_eq_true hk⟩
  have hpb (hk : s.kind = .bulkWrite ∨ s.kind = .bulkSetInt) : pbLive s = true :=
    Bool.and_eq_true_iff.mpr ⟨hbus, decide_eq_true hk⟩
  cases hst : s.state <;> simp only [hst, kindFits, decide_eq_true_eq, ne_eq, reduceCtorEq, not_false_eq_true,
    forall_const, not_true_eq_false, false_imp_iff] at hfits hservice
  case idle | signalDone =>
    rw [hst] at hbus
    cases hbus
  case writeDirection => exact agreesLive_complete_lastWrite (.inl hst) hservice
  case writeOutputForWrite => exact agreesLive_complete_lastWrite (.inr (.inl hst)) hservice
  case writeOutputForToggle => exact agreesLive_complete_lastWrite (.inr (.inr (.inl hst))) hservice
  case writeOutputForBulkSet => exact agreesLive_complete_lastWrite (.inr (.inr (.inr (.inl hst)))) hservice
  case writeInterruptMask => exact agreesLive_complete_lastWrite (.inr (.inr (.inr (.inr hst)))) hservice
  case readDirection =>
    rw [complete_readDirection hst, complete_readDirection (s := scrub s) hst]
    exact agreesLive_writeIfChanged hbus rfl (hpins (by simp [hfits])) (hpa (by simp [hfits])) hservice
  case readOutputForWrite =>
    rw [complete_readOutputForWrite hst, complete_readOutputForWrite (s := scrub s) hst]
    exact agreesLive_writeIfChanged hbus rfl (hpins (by simp [hfits])) (hpa (by simp [hfits])) hservice
  case readOutputForToggle =>
    have hlive := hpins (by obtain hk | hk := hfits <;> simp [hk])
    rw [complete_readOutputForToggle hst, complete_readOutputForToggle (s := scrub s) hst, ← scrub_pins hlive]
    exact agreesLive_wait_of_eq rfl hbus rfl hservice
  case readDirectionForBulkSet =>
    rw [complete_readDirectionForBulkSet hst, complete_readDirectionForBulkSet (s := scrub s) hst]
    exact agreesLive_writeBack (hpins (by simp [hfits])) (scrub_pa (hpa (by simp [hfits]))) hbus rfl hservice
  case readInterruptDirection =>
    rw [complete_readInterruptDirection hst, complete_readInterruptDirection (s := scrub s) hst]
    exact agreesLive_writeBack (hpins (by simp [hfits])) (scrub_pa (hpa (by simp [hfits]))) hbus rfl hservice
  case readOutputForBulkSet =>
    rw [complete_readOutputForBulkSet hst, complete_readOutputForBulkSet (s := scrub s) hst]
    exact agreesLive_writeBack (hpins (by simp [hfits])) (scrub_pb (hpb (by simp [hfits]))) hbus rfl hservice
  case readInterruptMask =>
    rw [complete_readInterruptMask hst, complete_readInterruptMask (s := scrub s) hst]
    exact agreesLive_writeBack (hpins (by simp [hfits])) (scrub_pb (hpb (by simp [hfits]))) hbus rfl hservice
  case writeDirectionForBulkSet =>
    rw [complete_writeDirectionForBulkSet hst, complete_writeDirectionForBulkSet (s := scrub s) hst]
    exact agreesLive_wait_of_eq rfl hbus rfl hservice
  case writeInterruptDirection =>
    rw [complete_writeInterruptDirection hst, complete_writeInterruptDirection (s := scrub s) hst]
    exact agreesLive_wait_of_eq rfl hbus rfl hservice
  case readInputForServicing =>
    by_cases hk : s.kind = .service
    · rw [complete_readInputForServicing_of_service hst hk, complete_readInputForServicing_of_service (s := scrub s) hst hk]
      exact agreesLive_wait hbus rfl fun _ => rfl
    · rw [complete_readInputForServicing_of_not_service hst hk,
        complete_readInputForServicing_of_not_service (s := scrub s) hst hk]
      exact agreesLive_stage fun h => absurd h hk
  case readInterruptStatus =>
    rw [complete_readInterruptStatus hst, complete_readInterruptStatus (s := scrub s) hst]
    exact agreesLive_stage (n := s.inSnapshot) (n' := (scrub s).inSnapshot) fun hk _ =>
      scrub_inSnapshot (by simp [snapshotLive, hk, hst])

end

/-! ## The events -/

section
variable {s : State}

theorem sameButDead_of_agreesLive {t u : State} (h : AgreesLive t u) : sameButDead (.next t) (.next u) := h.scrub_eq

/-- A command looks at the state alone, and its acceptance at what it has loaded (R122, R123). -/
theorem sameButDead_exec (i : Instr) : sameButDead (exec i s) (exec i (scrub s)) := by
  cases hwf : i.wellFormed with
  | false =>
    rw [exec_of_not_wellFormed hwf, exec_of_not_wellFormed hwf]
    exact scrub_emit_scrub _
  | true =>
    by_cases hidle : s.state = .idle
    · cases hk : sequenceKind i with
      | some k =>
        rw [exec_by_tables hk hwf, exec_by_tables hk hwf, command_idle _ hidle, command_idle (s := scrub s) _ hidle]
        exact sameButDead_of_agreesLive (agreesLive_startSequence (s := s.emit (.resp accepted)) hk)
      | none =>
        cases i with
        | mode | write | toggle | bulkWrite | bulkToggle | bulkSetInt | bulkRead => cases hk
        | setIH h =>
          rw [exec_setIH_of_idle h hidle, exec_setIH_of_idle (s := scrub s) h hidle]
          exact sameButDead_of_agreesLive (agreesLive_handler (s := s.emit (.resp accepted)) fun _ => rfl)
        | clrIH =>
          rw [exec_clrIH_of_idle hidle, exec_clrIH_of_idle (s := scrub s) hidle]
          exact sameButDead_of_agreesLive (agreesLive_handler (s := s.emit (.resp accepted)) nofun)
    · rw [exec_of_busy hwf hidle, exec_of_busy (s := scrub s) hwf hidle]
      exact scrub_emit_scrub _

theorem sameButDead_cmdStep (w : Command) : sameButDead (cmdStep w s) (cmdStep w (scrub s)) := by
  cases hw : decode w with
  | error e =>
    rw [cmdStep_error hw, cmdStep_error hw]
    exact scrub_emit_scrub _
  | ok i =>
    rw [cmdStep_ok hw, cmdStep_ok hw]
    exact sameButDead_exec i

theorem sameButDead_busDoneStep (hfits : kindFits s.state s.kind = true) (ok : Bool) (rdata : Word) :
    sameButDead (.next (busDoneStep ok rdata s)) (.next (busDoneStep ok rdata (scrub s))) := by
  cases hbus : busOutstanding s.state with
  | false =>
    rw [busDoneStep_of_not_outstanding hbus, busDoneStep_of_not_outstanding (s := scrub s) hbus]
    exact sameButDead_of_agreesLive (agreesLive_scrub s)
  | true =>
    have hdone {u : State} (hu : busOutstanding u.state = true) :
        busDoneStep ok rdata u = if ok then complete rdata u else busFailure u := by simp [busDoneStep, hu]
    rw [hdone hbus, hdone (u := scrub s) hbus]
    cases ok with
    | true => exact sameButDead_of_agreesLive (agreesLive_complete hbus hfits)
    | false =>
      exact sameButDead_of_agreesLive (agreesLive_stage (n := s.inSnapshot) (n' := (scrub s).inSnapshot) fun _ => nofun)

theorem sameButDead_notifyStep : sameButDead (.next (notifyStep s)) (.next (notifyStep (scrub s))) := by
  by_cases hdone : s.state = .signalDone
  · by_cases hirq : s.irqPending = true ∧ s.cfg.policy = .immediate
    · rw [notifyStep_eq_serviceStart hdone hirq, notifyStep_eq_serviceStart (s := scrub s) hdone hirq]
      exact sameButDead_of_agreesLive (agreesLive_deliver hdone).serviceStart
    · rw [notifyStep_eq_deliver hdone hirq, notifyStep_eq_deliver (s := scrub s) hdone hirq]
      exact sameButDead_of_agreesLive (agreesLive_deliver hdone)
  · rw [notifyStep_of_not_due hdone, notifyStep_of_not_due (s := scrub s) hdone]
    exact sameButDead_of_agreesLive (agreesLive_scrub s)

/-- COMMIT reads the Builder and the state, and runs a command. -/
theorem sameButDead_builderCommitStep (n : Nat) : sameButDead (builderCommitStep n s) (builderCommitStep n (scrub s)) := by
  have hfind : findBuilder n (scrub s) = findBuilder n s := rfl
  unfold builderCommitStep
  rw [hfind]
  cases findBuilder n s with
  | error f => exact (rfl : f = f)
  | ok b =>
    dsimp only
    cases builderCommand b with
    | none => exact congrArg (State.emit · (.commitResult n none)) (scrub_withBuilders_scrub _)
    | some i =>
      have hexec := sameButDead_exec (s := { s with builders := s.builders.set n { b with finished := true } }) i
      obtain ⟨t, ht⟩ := exec_next i { s with builders := s.builders.set n { b with finished := true } }
      obtain ⟨u, hu⟩ := exec_next i { scrub s with builders := (scrub s).builders.set n { b with finished := true } }
      have htu : scrub t = scrub u := by
        rw [ht] at hexec
        exact (hu ▸ hexec : sameButDead (.next t) (.next u))
      simp only [cmdStep_ok (decode_encode i), ht, hu]
      exact congrArg (State.emit · (.commitResult n (some (verdict true s)))) htu

/-- Every event's step reads live registers only. -/
theorem sameButDead_handle (hfits : kindFits s.state s.kind = true) (e : Event) :
    sameButDead (handle e s) (handle e (scrub s)) := by
  have hstay := sameButDead_of_agreesLive (agreesLive_scrub s)
  cases e with
  | cmd w => exact sameButDead_cmdStep w
  | busDone ok rdata => exact sameButDead_busDoneStep hfits ok rdata
  | notify => exact sameButDead_notifyStep
  | reset => exact sameButDead_of_agreesLive agreesLive_resetStep
  | irqEdge =>
    obtain ⟨hbusy, heq⟩ | ⟨hidle, heq⟩ := irqEdgeStep_cases s <;>
      obtain ⟨hbusy', heq'⟩ | ⟨hidle', heq'⟩ := irqEdgeStep_cases (scrub s) <;> rw [handle, handle, heq, heq']
    · exact sameButDead_of_agreesLive agreesLive_latch
    · exact absurd hidle' hbusy
    · exact absurd hidle hbusy'
    · exact sameButDead_of_agreesLive (agreesLive_scrub s).serviceStart
  | pollTick =>
    obtain ⟨hpol, hidle, hirq, heq⟩ | ⟨hno, heq⟩ := pollTickStep_cases s <;>
      obtain ⟨hpol', hidle', hirq', heq'⟩ | ⟨hno', heq'⟩ := pollTickStep_cases (scrub s) <;> rw [handle, handle, heq, heq']
    · exact sameButDead_of_agreesLive (agreesLive_scrub s).serviceStart
    · exact absurd ⟨hpol, hidle, hirq⟩ hno'
    · exact absurd ⟨hpol', hidle', hirq'⟩ hno
    · exact hstay
  | builderNew => exact scrub_withBuilders_scrub _
  | builderOp n op =>
    have hfind : findBuilder n (scrub s) = findBuilder n s := rfl
    rw [handle, handle, builderOpStep, builderOpStep, hfind]
    cases findBuilder n s with
    | error f => exact (rfl : f = f)
    | ok b => exact scrub_withBuilders_scrub _
  | builderCommit n => exact sameButDead_builderCommitStep n

end

/-! ## The step -/

/-- An outcome with the dead registers of its next state at zero. -/
def scrubOutcome : Host.Outcome State Fault Refusal → Host.Outcome State Fault Refusal
  | .next s => .next (scrub s)
  | .fault f => .fault f
  | .refused r => .refused r

/-- Outcomes differ in dead registers only if they become the same. -/
theorem sameButDead_iff (a b : Host.Outcome State Fault Refusal) : sameButDead a b ↔ scrubOutcome a = scrubOutcome b := by
  cases a <;> cases b <;> simp [sameButDead, scrubOutcome]

/-- A step is the same from the state with its dead registers at zero. -/
theorem sameButDead_step_scrub {s : State} (h : EngineInv s) : sameButDead (step s) (step (scrub s)) := by
  rw [step_eq_handle_nextEvent s, step_eq_handle_nextEvent (scrub s)]
  exact sameButDead_handle (s := { s with input := s.input.tail }) h.kind_fits _

/-- Settles O45: both steps are the step of the one state that the two agree on. -/
theorem deadRegistersAreNeverRead : Obligations.DeadRegistersAreNeverRead := by
  intro s t hs ht hscrub
  have hs' := (sameButDead_iff _ _).mp (sameButDead_step_scrub hs)
  have ht' := (sameButDead_iff _ _).mp (sameButDead_step_scrub ht)
  rw [hscrub] at hs'
  exact (sameButDead_iff _ _).mpr (hs'.trans ht'.symm)

end Sys2Proof.Machine
end

section
/-! The tier 1 statements about single steps: the acceptance of each command (spec/41_single_pin.md, spec/42_bulk.md,
spec/43_handler_builder.md), the spurious completion (spec/40_engine_common.md R124), `Notify` (R126), the tick (spec/60_exceptions.md
R239). -/

namespace Sys2Proof.Machine

/-! ## Commands -/

/-- Settles O4: the ten words, decoded. -/
theorem wordsOfTheVectorsDecode : Obligations.WordsOfTheVectorsDecode := by
  unfold Obligations.WordsOfTheVectorsDecode
  decide

/-- Settles O5: the command port runs what the decoder answers. -/
theorem stepRunsTheDecodedCommand : Obligations.StepRunsTheDecodedCommand :=
  fun _ _ _ _ hin hw => (step_cmd hin).trans (cmdStep_ok hw _)

/-- Settles O9: the tables' row of MODE. -/
theorem modeAcceptance : Obligations.ModeAcceptance :=
  fun pin dir target s hpin hidle =>
    sequenceAcceptanceByTheTables (.mode pin dir target) .mode s rfl ((pinInRange_iff pin).mpr hpin) hidle

/-- Settles O10: the tables' row of WRITE. -/
theorem writeAcceptance : Obligations.WriteAcceptance :=
  fun pin level target s hpin hidle =>
    sequenceAcceptanceByTheTables (.write pin level target) .write s rfl ((pinInRange_iff pin).mpr hpin) hidle

/-- Settles O11: the tables' row of TOGGLE. -/
theorem toggleAcceptance : Obligations.ToggleAcceptance :=
  fun pin target s hpin hidle =>
    sequenceAcceptanceByTheTables (.toggle pin target) .toggle s rfl ((pinInRange_iff pin).mpr hpin) hidle

/-- Settles O12: the tables' row of BULKWRITE. -/
theorem bulkWriteAcceptance : Obligations.BulkWriteAcceptance :=
  fun m d v target s hidle => sequenceAcceptanceByTheTables (.bulkWrite m d v target) .bulkWrite s rfl rfl hidle

/-- Settles O13: the tables' row of BULKTOGGLE. -/
theorem bulkToggleAcceptance : Obligations.BulkToggleAcceptance :=
  fun m target s hidle => sequenceAcceptanceByTheTables (.bulkToggle m target) .bulkToggle s rfl rfl hidle

/-- Settles O14: the tables' row of BULKSETINT. -/
theorem bulkSetIntAcceptance : Obligations.BulkSetIntAcceptance :=
  fun m v target s hidle => sequenceAcceptanceByTheTables (.bulkSetInt m v target) .bulkSetInt s rfl rfl hidle

/-- Settles O15: the tables' row of BULKREAD. -/
theorem bulkReadAcceptance : Obligations.BulkReadAcceptance :=
  fun target s hidle => sequenceAcceptanceByTheTables (.bulkRead target) .bulkRead s rfl rfl hidle

/-- Settles O16: the acceptance in `Idle`, the rejection elsewhere. -/
theorem setIhEffect : Obligations.SetIhEffect :=
  fun h s => ⟨exec_setIH_of_idle h, exec_of_busy (i := .setIH h) (s := s) rfl⟩

/-- Settles O17: the acceptance in `Idle`, the rejection elsewhere. -/
theorem clrIhEffect : Obligations.ClrIhEffect :=
  fun s => ⟨exec_clrIH_of_idle, exec_of_busy (i := .clrIH) (s := s) rfl⟩

/-! ## Other events -/

/-- Settles O27: with nothing outstanding a completion does nothing. -/
theorem spuriousCompletionIsIgnored : Obligations.SpuriousCompletionIsIgnored := by
  intro s ok rdata rest hin hst
  have hbus : busOutstanding s.state = false := busOutstanding_eq_false_iff.mpr hst
  rw [step_cons hin, handle, busDoneStep_of_not_outstanding (s := { s with input := rest }) hbus]

/-- What a service reports, by its status. -/
theorem serviceReport_eq_ite (s : State) :
    serviceReport s =
      if s.resStatus = .ok then { tag := s.ihTag, status := .ok, changed := s.resValue, values := s.inSnapshot }
      else { tag := s.ihTag, status := .busFail, changed := 0x0000#16, values := 0x0000#16 } := by
  cases h : s.resStatus <;> simp [serviceReport, h]

/-- Settles O28: the report told by the pending request, and the two ways on from it. -/
theorem notifyDeliversAndReturns : Obligations.NotifyDeliversAndReturns := by
  intro s rest hdone hin emitted
  have hreport : (notification { s with input := rest }).toList = emitted := by
    rw [notification_toList, serviceReport_eq_ite]
  have hdeliver : deliver { s with input := rest } =
      { s with input := rest, cbValid := false, kind := .none, state := .idle, out := s.out ++ emitted } := by
    rw [deliver, hreport]
  refine ⟨fun hirq => ?serve, fun hirq => ?idle⟩
  case serve =>
    rw [step_cons hin, handle, notifyStep_eq_serviceStart (s := { s with input := rest }) hdone hirq, hdeliver]
    rfl
  case idle => rw [step_cons hin, handle, notifyStep_eq_deliver (s := { s with input := rest }) hdone hirq, hdeliver]

/-- Settles O29: with no event left the step is `notifyStep`. -/
theorem engineMovesByItselfOnlyToNotify : Obligations.EngineMovesByItselfOnlyToNotify := by
  intro s hin
  refine ⟨fun hdone => ?waits, fun _ => ⟨notifyStep s, notifyStep s, step_nil hin, ?asEvent, rfl⟩⟩
  case waits => rw [step_nil hin, notifyStep_of_not_due hdone]
  case asEvent =>
    have hs : { s with input := [] } = s := by rw [← hin]
    exact (step_cons rfl).trans (congrArg (handle .notify) hs)

/-- Settles O31: the two cases of a tick, and a `Notify` that finds no interrupt to serve at once. -/
theorem polledServiceStartsAtATick : Obligations.PolledServiceStartsAtATick := by
  intro s rest hpol
  refine ⟨fun hin hidle hirq => ?serve, fun hin hno => ?nothing, fun hin hdone => ?notify⟩
  case serve =>
    obtain ⟨_, _, _, heq⟩ | ⟨hno, _⟩ := pollTickStep_cases { s with input := rest }
    · rw [step_cons hin, handle, heq]
      rfl
    · exact absurd ⟨hpol, hidle, hirq⟩ hno
  case nothing =>
    obtain ⟨_, hidle, hirq, _⟩ | ⟨_, heq⟩ := pollTickStep_cases { s with input := rest }
    · exact absurd ⟨hidle, hirq⟩ hno
    · rw [step_cons hin, handle, heq]
  case notify =>
    have hirq : ¬(s.irqPending = true ∧ s.cfg.policy = .immediate) := by simp [hpol]
    refine ⟨deliver { s with input := rest }, ?_, rfl, rfl⟩
    rw [step_cons hin, handle, notifyStep_eq_deliver (s := { s with input := rest }) hdone hirq]

/-- Settles O53: the failure of a service and its report. -/
theorem failedServiceReportsNoReading : Obligations.FailedServiceReportsNoReading := by
  intro s rdata rest hk hirq hst hin
  have hbus : busOutstanding s.state = true := by obtain h | h := hst <;> simp [h, busOutstanding, outstanding]
  obtain ⟨_, hrun, _⟩ := busFailureAbortsTheSequence s rdata rest hbus
  rw [hrun hin (by simp [hirq])]
  simp [hk, isSequenceKind]

end Sys2Proof.Machine
end

section
/-! Whole sequences of the single-pin commands, of BULKSETINT and of BULKREAD (spec/41_single_pin.md R153, R157, spec/42_bulk.md R185
to R187). -/

namespace Sys2Proof.Machine

/-! ## MODE and WRITE -/

/-- What MODE and WRITE have in common: the first read decides whether there is a write (R151, R155). -/
structure WritesIfChanged (i : Instr) (k : Kind) (e : EngineState) : Prop where
  kind : sequenceKind i = some k
  legal : i.wellFormed = true
  reports : isSequenceKind k = true
  waits : busOutstanding (firstState k) = true
  rule : ∀ (rdata : Word) (u : State), u.state = firstState k → complete rdata u = writeIfChanged (firstRead k) e rdata u
  last : IsLastWrite e

theorem writesIfChanged_mode {pin : Word} (hpin : pin.toNat < 16) (dir : Direction) (target : Option Tag) :
    WritesIfChanged (.mode pin dir target) .mode .writeDirection :=
  ⟨rfl, (pinInRange_iff pin).mpr hpin, rfl, rfl, fun _ _ => complete_readDirection, .inl rfl⟩

theorem writesIfChanged_write {pin : Word} (hpin : pin.toNat < 16) (level : Level) (target : Option Tag) :
    WritesIfChanged (.write pin level target) .write .writeOutputForWrite :=
  ⟨rfl, (pinInRange_iff pin).mpr hpin, rfl, rfl, fun _ _ => complete_readOutputForWrite, .inr (.inl rfl)⟩

section
variable {s : State} {i : Instr} {k : Kind} {e : EngineState} {rdata : Word} {rest : List Event}

/-- The register holds the desired bits already: one read, no write (R151, R155). -/
theorem run_of_unchanged (hi : WritesIfChanged i k e) (hidle : s.state = .idle)
    (hirq : s.irqPending = true → s.cfg.policy = .polled)
    (hin : s.input = .cmd (encode i) :: .busDone true rdata :: .notify :: rest)
    (hsame : merge rdata (loadedPins i s.pins) (loadedPa i s.pa) = rdata) :
    ∃ t : State, Sys2Proof.core.run 3 s = .next t ∧ t.state = .idle ∧ t.input = rest ∧
      t.out = s.out ++ [.resp accepted, .busReq (readReq s (firstRead k))] ++ doneOk (completionTarget i) 0#16 := by
  have hread := step_cmd_sequence hi.kind hi.legal hidle hin
  refine ⟨_, run_of_step hread (run_of_step (step_busDone_true hi.waits rfl ((hi.rule rdata _ rfl).trans
    (writeIfChanged_of_eq hsame))) (run_of_step (step_notify_ok rfl hi.reports rfl rfl rfl hirq rfl) (run_zero _))),
    rfl, rfl, rfl⟩

/-- The register is to change: one read, and one write of the merged value (R151, R152, R155, R156). -/
theorem run_of_changed {x : Word} (hi : WritesIfChanged i k e) (hidle : s.state = .idle)
    (hirq : s.irqPending = true → s.cfg.policy = .polled)
    (hin : s.input = .cmd (encode i) :: .busDone true rdata :: .busDone true x :: .notify :: rest)
    (hdiff : merge rdata (loadedPins i s.pins) (loadedPa i s.pa) ≠ rdata) :
    ∃ t : State, Sys2Proof.core.run 4 s = .next t ∧ t.state = .idle ∧ t.input = rest ∧
      t.out = s.out ++ [.resp accepted, .busReq (readReq s (firstRead k)),
        .busReq (writeReq s (firstRead k) (merge rdata (loadedPins i s.pins) (loadedPa i s.pa)))] ++
        doneOk (completionTarget i) 0#16 := by
  have hread := step_cmd_sequence hi.kind hi.legal hidle hin
  refine ⟨_, run_of_step hread (run_of_step (step_busDone_true hi.waits rfl ((hi.rule rdata _ rfl).trans
    (writeIfChanged_of_ne hdiff))) (run_lastWrite_notify hi.last hi.reports rfl rfl hirq rfl)), rfl, rfl, ?_⟩
  simp only [State.goto_out, issueWrite_out, List.append_assoc]
  rfl

end

/-- Merging one pin's desired bit: that bit as desired, every other as it was. -/
theorem getLsbD_merge_desired (old : Word) {p j : Nat} (hj : j < 16) (c : Prop) [Decidable c] :
    (merge old (1#16 <<< p) (if c then 1#16 <<< p else 0#16)).getLsbD j = if j = p then decide c else old.getLsbD j := by
  by_cases hjp : j = p
  · subst hjp
    have hbit : (1#16 <<< j).getLsbD j = true := by rw [← BitVec.twoPow_eq, BitVec.getLsbD_twoPow]; simp [hj]
    rw [getLsbD_merge, hbit, if_pos rfl, if_pos rfl]
    by_cases hc : c <;> simp only [hc, if_true, if_false, hbit] <;> simp
  · rw [getLsbD_merge_one_pin old _ hjp, if_neg hjp]

/-- A pin's bit that is already as desired: merging changes nothing. -/
theorem merge_desired_eq_self {old : Word} {p : Nat} {c : Prop} [Decidable c] (h : old.getLsbD p = decide c) :
    merge old (1#16 <<< p) (if c then 1#16 <<< p else 0#16) = old := by
  refine BitVec.eq_of_getLsbD_eq fun j hj => ?_
  rw [getLsbD_merge_desired old hj]
  split
  next hjp => rw [hjp, h]
  next => rfl

/-- A pin's bit that is not as desired: merging flips it and no other. -/
theorem getLsbD_merge_flips {old : Word} {p j : Nat} {c : Prop} [Decidable c] (h : old.getLsbD p ≠ decide c) (hj : j < 16) :
    (merge old (1#16 <<< p) (if c then 1#16 <<< p else 0#16)).getLsbD j =
      if j = p then !old.getLsbD j else old.getLsbD j := by
  rw [getLsbD_merge_desired old hj]
  refine ite_congr rfl (fun hjp => ?_) fun _ => rfl
  rw [hjp, Bool.eq_not]
  exact h.symm

/-- So the merged value differs from the value read. -/
theorem merge_desired_ne_self {old : Word} {p : Nat} {c : Prop} [Decidable c] (hp : p < 16) (h : old.getLsbD p ≠ decide c) :
    merge old (1#16 <<< p) (if c then 1#16 <<< p else 0#16) ≠ old := by
  intro hsame
  have hbit := getLsbD_merge_flips h hp
  simp [hsame] at hbit

/-- Settles O46: by whether the direction bit read is as requested. -/
theorem modeSequence : Obligations.ModeSequence := by
  intro s pin dir target rdata x rest hidle hpin hirq accepted readCfg
  have hmode := writesIfChanged_mode hpin dir target
  refine ⟨fun hin hbit => run_of_unchanged hmode hidle hirq hin (merge_desired_eq_self hbit), fun hin hbit => ?_⟩
  obtain ⟨t, hrun, hstate, hinput, hout⟩ := run_of_changed hmode hidle hirq hin (merge_desired_ne_self hpin hbit)
  exact ⟨t, _, hrun, hstate, hinput, hout, fun j => getLsbD_merge_flips hbit⟩

/-- Settles O47: by whether the output bit read is as requested. -/
theorem writeSequence : Obligations.WriteSequence := by
  intro s pin level target rdata x rest hidle hpin hirq accepted readOut
  have hwrite := writesIfChanged_write hpin level target
  refine ⟨fun hin hbit => run_of_unchanged hwrite hidle hirq hin (merge_desired_eq_self hbit), fun hin hbit => ?_⟩
  obtain ⟨t, hrun, hstate, hinput, hout⟩ := run_of_changed hwrite hidle hirq hin (merge_desired_ne_self hpin hbit)
  exact ⟨t, _, hrun, hstate, hinput, hout, fun j => getLsbD_merge_flips hbit⟩

/-! ## BULKSETINT and BULKREAD -/

/-- BULKSETINT from its word to its `Notify`: the acceptance, the completions of R181 to R183 in their order, and the last write
(R180 to R185). -/
theorem run_bulkSetInt {s : State} {m v cfg x imask y : Word} {target : Option Tag} {rest : List Event}
    (hidle : s.state = .idle) (hirq : s.irqPending = true → s.cfg.policy = .polled)
    (hin : s.input = .cmd (encode (.bulkSetInt m v target)) :: .busDone true cfg :: .busDone true x ::
      .busDone true imask :: .busDone true y :: .notify :: rest) :
    Sys2Proof.core.run 6 s = .next { s with
      input := rest, state := .idle, kind := .none, pins := m, pa := m, pb := v
      cbValid := false, cbTag := target.getD s.cbTag, resStatus := .ok, resValue := 0#16
      out := s.out ++ [.resp accepted, .busReq (readReq s .config), .busReq (writeReq s .config (merge cfg m m)),
        .busReq (readReq s .intMask), .busReq (writeReq s .intMask (merge imask m v))] ++ doneOk target 0#16 } := by
  refine run_of_step (step_cmd_sequence (i := .bulkSetInt m v target) rfl rfl hidle hin) ?_
  refine run_of_step (step_busDone_true rfl rfl (complete_readInterruptDirection rfl)) ?_
  refine run_of_step (step_busDone_true rfl rfl (complete_writeInterruptDirection rfl)) ?_
  refine run_of_step (step_busDone_true rfl rfl (complete_readInterruptMask rfl)) ?_
  refine Eq.trans (run_lastWrite_notify (target := target) (.inr (.inr (.inr (.inr rfl)))) rfl rfl rfl hirq rfl) ?_
  simp only [State.goto_out, issueWrite_out, issueRead_out, List.append_assoc]
  rfl

/-- Settles O50: the run, and the bits of the two merged values (R127). -/
theorem bulkSetIntSequence : Obligations.BulkSetIntSequence := by
  intro s m v target cfg x imask y rest hidle hirq hin
  refine ⟨_, merge cfg m m, merge imask m v, run_bulkSetInt hidle hirq hin, rfl, rfl, rfl, fun j _ => ?cfgBit,
    fun j _ => getLsbD_merge ..⟩
  case cfgBit =>
    rw [getLsbD_merge]
    cases m.getLsbD j <;> rfl

/-- Settles O51: the acceptance, the one completion, which stages the value read, and `Notify` (R186, R187). -/
theorem bulkReadSequence : Obligations.BulkReadSequence := by
  intro s target rdata rest hidle hirq hin
  refine run_of_step (step_cmd_sequence (i := .bulkRead target) rfl rfl hidle hin) ?_
  refine run_of_step (step_busDone_true rfl rfl (complete_readInputForServicing_of_not_service rfl nofun)) ?_
  refine run_of_step (step_notify_ok (target := target) rfl rfl rfl rfl rfl hirq rfl) ?_
  rw [run_zero, ← hidle]
  rfl

end Sys2Proof.Machine
end

section
/-! What a Builder expands to (spec/43_handler_builder.md R206 to R208), for every list of calls. -/

namespace Sys2Proof.Machine

/-! ## The last calls of a list -/

/-- A later SET of the pin counts before an earlier one. -/
theorem lastSet_cons (p : Nat) (op : BuilderOp) (ops : List BuilderOp) :
    lastSet p (op :: ops) = (lastSet p ops).or (lastSet p [op]) := by
  cases h : lastSet p ops <;> simp [lastSet, h]

theorem lastSet_append (p : Nat) (ops ops' : List BuilderOp) :
    lastSet p (ops ++ ops') = (lastSet p ops').or (lastSet p ops) := by
  induction ops with
  | nil => simp [lastSet]
  | cons op ops ih => rw [List.cons_append, lastSet_cons, ih, Option.or_assoc, ← lastSet_cons]

/-- A later CALLBACK counts before an earlier one. -/
theorem lastCallback_cons (op : BuilderOp) (ops : List BuilderOp) :
    lastCallback (op :: ops) = (lastCallback ops).or (lastCallback [op]) := by
  cases h : lastCallback ops <;> simp [lastCallback, h]

theorem lastCallback_append (ops ops' : List BuilderOp) :
    lastCallback (ops ++ ops') = (lastCallback ops').or (lastCallback ops) := by
  induction ops with
  | nil => simp [lastCallback]
  | cons op ops ih => rw [List.cons_append, lastCallback_cons, ih, Option.or_assoc, ← lastCallback_cons]

/-! ## The accumulator, bit by bit -/

/-- The bit of a pin's one-hot mask. -/
theorem getLsbD_oneHot {p q : Nat} (hp : p < 16) : (oneHot q).getLsbD p = decide (q = p) := by
  rw [oneHot, ← BitVec.twoPow_eq, BitVec.getLsbD_twoPow]
  simp only [Bool.and_eq_right_iff_imp, decide_eq_true_eq]
  omega

/-- `putBit` is the merge of one desired bit (R127, R206). -/
theorem putBit_eq_merge (v m : Word) (x : Bool) : putBit v m x = merge v m (if x then m else 0#16) := by
  cases x <;> simp [putBit, merge]

/-- A SET replaces its own pin's bit. -/
theorem getLsbD_putBit (v : Word) {p q : Nat} (hp : p < 16) (x : Bool) :
    (putBit v (oneHot q) x).getLsbD p = if q = p then x else v.getLsbD p := by
  rw [putBit_eq_merge, oneHot, getLsbD_merge_desired v hp, Bool.decide_eq_true]
  exact if_congr eq_comm rfl rfl

/-- What a list of calls leaves in the accumulator (R206, R207). -/
structure Accumulated (ops : List BuilderOp) (b : Builder) : Prop where
  armed : b.armed = true ↔ ∃ p < 16, lastSet p ops ≠ none
  target : builderTarget b = lastCallback ops
  pins : ∀ p < 16, b.pins.getLsbD p = (lastSet p ops).isSome
  dirs : ∀ p < 16, b.dirs.getLsbD p = decide ((lastSet p ops).map Prod.fst = some .output)
  vals : ∀ p < 16, b.vals.getLsbD p = decide ((lastSet p ops).map Prod.snd = some .high)

/-- A call that sets no valid pin leaves every pin's last SET. -/
theorem lastSet_append_of_none {p : Nat} {op : BuilderOp} (h : lastSet p [op] = none) (ops : List BuilderOp) :
    lastSet p (ops ++ [op]) = lastSet p ops := by
  rw [lastSet_append, h, Option.none_or]

/-- SET of a valid pin. -/
theorem accumulated_set {ops : List BuilderOp} {b : Builder} (h : Accumulated ops b) {q : Nat} (hq : q < 16)
    (dir : Direction) (val : Level) : Accumulated (ops ++ [.set q dir val]) (applyOp b (.set q dir val)) := by
  have hlast (p : Nat) : lastSet p (ops ++ [.set q dir val]) = if q = p then some (dir, val) else lastSet p ops := by
    rw [lastSet_append]
    by_cases hqp : q = p <;> simp [lastSet, hqp]
  have happly : applyOp b (.set q dir val) = { b with
      pins := b.pins ||| oneHot q
      dirs := putBit b.dirs (oneHot q) (decide (dir = .output))
      vals := putBit b.vals (oneHot q) (decide (val = .high))
      armed := true } := if_pos hq
  rw [happly]
  refine ⟨⟨fun _ => ⟨q, hq, by simp [hlast]⟩, fun _ => rfl⟩, ?target, fun p hp => ?pins, fun p hp => ?dirs, fun p hp => ?vals⟩
  case target =>
    rw [lastCallback_append]
    exact h.target
  case pins =>
    rw [hlast, BitVec.getLsbD_or, h.pins p hp, getLsbD_oneHot hp]
    by_cases hqp : q = p <;> simp [hqp]
  case dirs =>
    rw [hlast, getLsbD_putBit _ hp, h.dirs p hp]
    by_cases hqp : q = p <;> simp [hqp]
  case vals =>
    rw [hlast, getLsbD_putBit _ hp, h.vals p hp]
    by_cases hqp : q = p <;> simp [hqp]

/-- SET of any other pin. -/
theorem accumulated_set_invalid {ops : List BuilderOp} {b : Builder} (h : Accumulated ops b) {q : Nat} (hq : ¬q < 16)
    (dir : Direction) (val : Level) : Accumulated (ops ++ [.set q dir val]) (applyOp b (.set q dir val)) := by
  have hlast {p : Nat} (hp : p < 16) : lastSet p (ops ++ [.set q dir val]) = lastSet p ops := by
    have hqp : q ≠ p := fun hqp => hq (hqp ▸ hp)
    exact lastSet_append_of_none (by simp [lastSet, hqp]) ops
  rw [applyOp_set_of_not_lt b dir val hq]
  refine ⟨h.armed.trans ⟨?_, ?_⟩, ?_, fun p hp => ?_, fun p hp => ?_, fun p hp => ?_⟩
  · rintro ⟨p, hp, hset⟩
    exact ⟨p, hp, hlast hp ▸ hset⟩
  · rintro ⟨p, hp, hset⟩
    exact ⟨p, hp, hlast hp ▸ hset⟩
  · rw [lastCallback_append]
    exact h.target
  · rw [hlast hp, h.pins p hp]
  · rw [hlast hp, h.dirs p hp]
  · rw [hlast hp, h.vals p hp]

/-- CALLBACK. -/
theorem accumulated_callback {ops : List BuilderOp} {b : Builder} (h : Accumulated ops b) (t : Tag) :
    Accumulated (ops ++ [.callback t]) (applyOp b (.callback t)) := by
  have hlast (p : Nat) : lastSet p (ops ++ [.callback t]) = lastSet p ops := lastSet_append_of_none rfl ops
  simp only [applyOp_callback]
  refine ⟨?_, ?_, fun p hp => ?_, fun p hp => ?_, fun p hp => ?_⟩
  · simp only [hlast]
    exact h.armed
  · rw [lastCallback_append]
    rfl
  · rw [hlast, ← h.pins p hp]
  · rw [hlast, ← h.dirs p hp]
  · rw [hlast, ← h.vals p hp]

/-- Every list of calls on a new Builder, by its last call. -/
theorem accumulated_foldl (ops : List BuilderOp) : Accumulated ops (ops.foldl applyOp newBuilder) := by
  induction ops using List.reverseRecOn with
  | nil =>
    have hzero (p : Nat) : (0#16).getLsbD p = false := BitVec.getLsbD_zero
    exact ⟨⟨nofun, fun ⟨_, _, h⟩ => absurd rfl h⟩, rfl, fun p _ => hzero p, fun p _ => hzero p, fun p _ => hzero p⟩
  | append_singleton ops op ih =>
    rw [List.foldl_concat]
    cases op with
    | callback t => exact accumulated_callback ih t
    | set q dir val =>
      by_cases hq : q < 16
      · exact accumulated_set ih hq dir val
      · exact accumulated_set_invalid ih hq dir val

/-- Settles O56: the command of the accumulator that the calls leave. -/
theorem builderExpandsToOneBulkWrite : Obligations.BuilderExpandsToOneBulkWrite := by
  intro ops
  obtain ⟨harmed, htarget, hpins, hdirs, hvals⟩ := accumulated_foldl ops
  refine ⟨fun hnone => ?nothing, fun hset => ?oneBulkWrite⟩
  case nothing =>
    refine builderCommand_of_not_armed (Bool.eq_false_iff.mpr fun h => ?_)
    obtain ⟨p, hp, hset⟩ := harmed.mp h
    exact hset (hnone p hp)
  case oneBulkWrite =>
    refine ⟨_, _, _, (builderCommand_of_armed (harmed.mpr hset)).trans (by rw [htarget]), fun p hp => ?_⟩
    exact ⟨hpins p hp, hdirs p hp, hvals p hp⟩

end Sys2Proof.Machine
end

section
/-! The order of a cycle's events in an implementation with a clock (spec/60_exceptions.md R245). -/

namespace Sys2Proof.Machine

/-- `serialise` is the insertion sort by R245's order. -/
theorem serialise_eq_insertionSort (batch : List Event) :
    serialise batch = batch.insertionSort (fun e f => priority e ≤ priority f) := by
  have hinsert : insertEvent = List.orderedInsert (fun e f => priority e ≤ priority f) := by
    funext e evs
    induction evs with
    | nil => rfl
    | cons f evs ih => rw [insertEvent, ih, List.orderedInsert_cons]
  rw [serialise, hinsert]
  rfl

/-- No event is lost or added. -/
theorem serialise_perm (batch : List Event) : (serialise batch).Perm batch :=
  serialise_eq_insertionSort batch ▸ List.perm_insertionSort _ batch

/-- The events stand in R245's order. -/
theorem serialise_pairwise (batch : List Event) :
    (serialise batch).Pairwise (fun e f => priority e ≤ priority f) := by
  have : Std.Total (fun e f : Event => priority e ≤ priority f) := ⟨fun _ _ => Nat.le_total ..⟩
  have : IsTrans Event (fun e f => priority e ≤ priority f) := ⟨fun _ _ _ => Nat.le_trans⟩
  exact serialise_eq_insertionSort batch ▸ List.pairwise_insertionSort _ batch

/-- `Notify` is among a cycle's events exactly if it is due and no completion arrives (R245 (3)). -/
theorem notify_mem_cycleEvents {arrived : List Event} (hno : .notify ∉ arrived) (s : State) :
    .notify ∈ cycleEvents arrived s ↔ s.state = .signalDone ∧ ∀ ok r, Event.busDone ok r ∉ arrived := by
  have hany : arrived.any isBusDone = false ↔ ∀ ok r, Event.busDone ok r ∉ arrived := by
    rw [List.any_eq_false]
    refine ⟨fun h ok r hmem => h _ hmem rfl, fun h e hmem he => ?_⟩
    cases e <;> simp [isBusDone] at he
    exact h _ _ hmem
  rw [cycleEvents, (serialise_perm _).mem_iff, ← hany]
  split
  next hdue => simpa [notifyDue] using hdue
  next hdue => simpa [hno, notifyDue] using hdue

/-- A legal command that arrives while the Engine is busy is rejected (R221). -/
theorem step_cmd_of_busy {s : State} {i : Instr} {rest : List Event} (hwf : i.wellFormed = true) (hbusy : s.state ≠ .idle)
    (hin : s.input = .cmd (encode i) :: rest) :
    step s = .next (State.emit { s with input := rest } (.resp (rejected .busy))) := by
  rw [step_cmd hin, cmdStep_ok (decode_encode i)]
  exact exec_of_busy hwf hbusy

/-- Settles O57: the sort, the `Notify` of a cycle, and the two steps of an edge and a command. -/
theorem clockedPriorityOrder : Obligations.ClockedPriorityOrder := by
  refine ⟨fun batch => ⟨serialise_perm batch, serialise_pairwise batch⟩, fun arrived s hno => notify_mem_cycleEvents hno s,
    fun s i hidle hin hwf => ?edgeFirst⟩
  case edgeFirst =>
    have hevents : (clockCycle [.cmd (encode i), .irqEdge] s).input = [.irqEdge, .cmd (encode i)] := by
      simp [clockCycle, hin, cycleEvents, notifyDue, hidle, serialise, insertEvent, priority]
    have hedge := step_irqEdge_of_idle (s := clockCycle [.cmd (encode i), .irqEdge] s) hidle hevents
    refine ⟨_, run_of_step hedge (run_of_step (step_cmd_of_busy hwf nofun rfl) (run_zero _)), rfl, rfl, ?_⟩
    exact List.append_assoc ..

end Sys2Proof.Machine
end

section
/-! The reference device (spec/20_memory.md R74), and the machine closed with it (log entry 10): what one step of the closed run does
by the request the machine's step issues. -/

namespace Sys2Proof.Machine

/-! ## The device -/

/-- The two bytes of a register, port 0 first, are the register (R62). -/
theorem wordOfBytes_portBytes (v : Word) : wordOfBytes (port0Byte v) (port1Byte v) = v := by
  refine (BitVec.extractLsb'_append_extractLsb'_eq_extractLsb' (start₁ := 0) rfl).trans ?_
  exact BitVec.extractLsb'_eq_self

theorem memRead_value (r : RemoteReg) (d : RefDevice) : (memRead r d).1 = deviceValue d r := wordOfBytes_portBytes _

/-- Only a read of `ISTAT` changes the device, and only `ISTAT` (R72). -/
theorem deviceValue_memRead (r q : RemoteReg) (d : RefDevice) :
    deviceValue (memRead r d).2 q = if r = .intStat ∧ q = .intStat then 0x0000#16 else deviceValue d q := by
  cases r <;> cases q <;> rfl

/-- A write changes its own register, and `IN` and `ISTAT` not at all. -/
theorem deviceValue_memWrite (r q : RemoteReg) (v : Word) (d : RefDevice) :
    deviceValue (memWrite r v d) q =
      if q = r ∧ (r = .output ∨ r = .config ∨ r = .intMask) then v else deviceValue d q := by
  cases r <;> cases q <;> rfl

/-! ## The transport -/

section
variable {p : Config.Params} {q : BusReq} {r : RemoteReg}

/-- Distinct ids find their registers (R7, R61). -/
theorem regOfId_regId (hp : idsDistinct p) (r : RemoteReg) : regOfId p (regId p r) = some r := by
  have hfind (q : RemoteReg) (h : regId p r = regId p q) : q = r := (eq_of_regId_eq hp h).symm
  unfold regOfId
  split
  next h => rw [hfind .input h]
  split
  next h => rw [hfind .output h]
  split
  next h => rw [hfind .config h]
  split
  next h => rw [hfind .intMask h]
  split
  next h => rw [hfind .intStat h]
  next hin hout hcfg hmask hstat =>
    cases r
    case input => exact absurd rfl hin
    case output => exact absurd rfl hout
    case config => exact absurd rfl hcfg
    case intMask => exact absurd rfl hmask
    case intStat => exact absurd rfl hstat

/-- A read is answered with the register's value. -/
theorem answer_read (hp : idsDistinct p) (hq : q.reg = regId p r) (hrw : q.rw = .read) (d : RefDevice) :
    answer p none q d = some (.busDone true (deviceValue d r), (memRead r d).2) := by
  rw [← memRead_value, answer, hq, regOfId_regId hp, hrw]

/-- A write is answered without data. -/
theorem answer_write (hp : idsDistinct p) (hq : q.reg = regId p r) (hrw : q.rw = .write) (d : RefDevice) :
    answer p none q d = some (.busDone true 0x0000#16, memWrite r q.wdata d) := by
  rw [answer, hq, regOfId_regId hp, hrw]

/-- A failure leaves the device (log entry 10). -/
theorem answer_failed (hp : idsDistinct p) (hq : q.reg = regId p r) (x : Word) (d : RefDevice) :
    answer p (some x) q d = some (.busDone false x, d) := by
  rw [answer, hq, regOfId_regId hp]

end

/-- Settles O58: the device register by register, and the transport's three answers. -/
theorem referenceDeviceAccesses : Obligations.ReferenceDeviceAccesses :=
  ⟨fun d r q v => ⟨memRead_value r d, deviceValue_memRead r q d, deviceValue_memWrite r q v d⟩,
    fun _ d _ _ x hp hq => ⟨fun hrw => answer_read hp hq hrw d, fun hrw => answer_write hp hq hrw d, answer_failed hp hq x d⟩⟩

/-! ## The closed run -/

/-- The step from `s` to `t` issues the request `q` and then waits, with no interrupt latched and no event left. -/
structure Issues (s t : State) (q : BusReq) : Prop where
  step : step s = .next t
  out : ∃ o, t.out = s.out ++ o ∧ requestIn o = some q
  cfg : t.cfg = s.cfg
  waits : busOutstanding t.state = true
  irqPending : t.irqPending = false
  input : t.input = []

section
variable {s t : State} {q : BusReq} {script : List Reply} {d d' : RefDevice} {e : Event}

/-- A closed step that issues nothing. -/
theorem closedStep_quiet {o : List Output} (hstep : step s = .next t) (hout : t.out = s.out ++ o) (ho : requestIn o = none) :
    closedStep script s d = some (script, t, d) := by
  have hdrop : t.out.drop s.out.length = o := by simp [hout]
  simp only [closedStep, hstep, hdrop, ho]

/-- A closed step that issues a request: its answer is the next event. -/
theorem closedStep_issues {failed : Option Word} (h : Issues s t q)
    (hreply : script.headD promptOk = { wait := 0, failed := failed }) (hans : answer s.cfg failed q d = some (e, d')) :
    closedStep script s d = some (script.tail, { t with input := [e] }, d') := by
  obtain ⟨o, hout, ho⟩ := h.out
  have hdrop : t.out.drop s.out.length = o := by simp [hout]
  simp only [closedStep, h.step, hdrop, ho, hreply, h.cfg, hans, h.input]
  rfl

/-- A closed run goes on from where its first step ends. -/
theorem closedRun_succ {script' : List Reply} (h : closedStep script s d = some (script', t, d')) (n : Nat) :
    closedRun (n + 1) script s d = closedRun n script' t d' := by
  rw [closedRun, h]

/-- A request answered at once with success. -/
theorem closedRun_answered (h : Issues s t q) (hans : answer s.cfg none q d = some (e, d')) (n : Nat) (script : List Reply) :
    closedRun (n + 1) (promptOk :: script) s d = closedRun n script { t with input := [e] } d' :=
  closedRun_succ (closedStep_issues h rfl hans) n

/-- What is delivered holds no request. -/
theorem requestIn_notification (s : State) : requestIn (notification s).toList = none := by
  rw [notification_toList]
  split
  · rfl
  · split <;> rfl

/-- With no event left and the result staged, the closed machine takes `Notify` (log entry 3). -/
theorem closedStep_notify (hdone : s.state = .signalDone) (hirq : s.irqPending = false) (hin : s.input = []) :
    closedStep script s d = some (script, deliver s, d) := by
  have hnotify : step s = .next (deliver s) := by
    rw [step_nil hin, notifyStep_eq_deliver hdone (by simp [hirq])]
  exact closedStep_quiet hnotify rfl (requestIn_notification s)

/-- The last two steps of a run: a completion stages a result, `Notify` delivers it. -/
theorem closedRun_stage {c : Config.Status} {v : Word} {u : State} (hstep : step s = .next (stage c v u))
    (hout : u.out = s.out) (hirq : u.irqPending = false) (hin : u.input = []) :
    closedRun 2 script s d = some (deliver (stage c v u), d) :=
  (closedRun_succ (closedStep_quiet (o := []) hstep (by simp [hout]) rfl) 1).trans
    (closedRun_succ (closedStep_notify (s := stage c v u) rfl hirq hin) 0)

/-- A request that fails: the sequence is aborted and ends in `Idle` (R125). -/
theorem closedRun_failed {r : RemoteReg} (h : Issues s t q) (hids : idsDistinct s.cfg) (hq : q.reg = regId s.cfg r)
    (x : Word) (d : RefDevice) (script : List Reply) :
    ∃ u : State, closedRun 3 ({ wait := 0, failed := some x } :: script) s d = some (u, d) ∧
      u.state = .idle ∧ u.input = [] ∧ u.resStatus = .busFail := by
  have hfail : step { t with input := [.busDone false x] } = .next (busFailure { t with input := [] }) :=
    step_busDone_false h.waits rfl
  rw [closedRun_succ (closedStep_issues h rfl (answer_failed hids hq x d)),
    List.tail_cons, closedRun_stage hfail rfl h.irqPending rfl]
  exact ⟨_, rfl, rfl, rfl, rfl⟩

/-- The last write of a sequence completed, and its `Notify`. -/
theorem closedRun_lastWrite {y : Word} (hlast : IsLastWrite s.state) (hirq : s.irqPending = false)
    (hin : s.input = [.busDone true y]) (script : List Reply) (d : RefDevice) :
    closedRun 2 script s d = some (deliver (stage .ok 0#16 { s with input := [] }), d) :=
  closedRun_stage (u := { s with input := [] }) (lastWriteCompletions s y [] hin hlast) rfl hirq rfl

/-- A script at its end answers as `promptOk` does. -/
theorem closedRun_prompt (n k : Nat) (s : State) (d : RefDevice) :
    closedRun n (List.replicate k promptOk) s d = closedRun n [] s d := by
  induction n generalizing k s d with
  | zero => rfl
  | succ n ih =>
    cases k with
    | zero => rfl
    | succ k =>
      simp only [closedRun, closedStep, List.replicate_succ, List.headD_cons, List.headD_nil, List.tail_cons, List.tail_nil]
      cases step s with
      | fault | refused => rfl
      | next t =>
        dsimp only
        cases requestIn (t.out.drop s.out.length) with
        | none => exact ih (k + 1) t d
        | some q =>
          dsimp only
          cases answer t.cfg promptOk.failed q d with
          | none => rfl
          | some a => exact ih k _ _

/-- So a run without a script is one with as many prompt replies as one likes. -/
theorem closedRun_nil_of_prompt {n : Nat} {r : Option (State × RefDevice)} (k : Nat)
    (h : closedRun n (List.replicate k promptOk) s d = r) : closedRun n [] s d = r :=
  (closedRun_prompt n k s d).symm.trans h

end

end Sys2Proof.Machine
end

section
/-! BULKWRITE and TOGGLE in the reference environment (spec/41_single_pin.md R161, spec/42_bulk.md R170 to R175). -/

namespace Sys2Proof.Machine

/-- The machine with the sequence of a command loaded in `s`, waiting in `e` for the events `evs`, with the outputs `out`. -/
def pendingIn (k : Kind) (i : Instr) (s : State) (e : EngineState) (out : List Output) (evs : List Event) : State :=
  { s with
    state := e, kind := k, pins := loadedPins i s.pins, pa := loadedPa i s.pa, pb := loadedPb i s.pb
    cbValid := (completionTarget i).isSome, cbTag := (completionTarget i).getD s.cbTag, input := evs, out := out }

section
variable {s : State} {i : Instr} {k : Kind} {out : List Output}

/-- The command's first step issues its first read. -/
theorem issues_start (hk : sequenceKind i = some k) (hwf : i.wellFormed = true) (hidle : s.state = .idle)
    (hirq : s.irqPending = false) (hin : s.input = [.cmd (encode i)]) :
    Issues s (pendingIn k i s (firstState k) (s.out ++ [.resp accepted, .busReq (readReq s (firstRead k))]) [])
      (readReq s (firstRead k)) where
  step := step_cmd_sequence hk hwf hidle hin
  out := ⟨_, rfl, rfl⟩
  cfg := rfl
  waits := by
    obtain ⟨_, hwaits, _⟩ := kindFits_firstState hk
    exact hwaits
  irqPending := hirq
  input := rfl

/-- A completion that goes on with a request. -/
theorem issues_next {e e' : EngineState} {rdata : Word} {q : BusReq} (hirq : s.irqPending = false)
    (hbus : busOutstanding e = true) (he : busOutstanding e' = true)
    (hc : complete rdata (pendingIn k i s e out []) = ((pendingIn k i s e out []).emit (.busReq q)).goto e') :
    Issues (pendingIn k i s e out [.busDone true rdata]) (pendingIn k i s e' (out ++ [.busReq q]) []) q where
  step := step_busDone_true hbus rfl hc
  out := ⟨_, rfl, rfl⟩
  cfg := rfl
  waits := he
  irqPending := hirq
  input := rfl

/-- The sequence's read answered with success. -/
theorem closedRun_read {u : State} {e : EngineState} {r : RemoteReg} (h : Issues u (pendingIn k i s e out []) (readReq s r))
    (hids : idsDistinct s.cfg) (d : RefDevice) (n : Nat) (script : List Reply) :
    closedRun (n + 1) (promptOk :: script) u d =
      closedRun n script (pendingIn k i s e out [.busDone true (deviceValue d r)]) (memRead r d).2 :=
  closedRun_answered h (answer_read (h.cfg ▸ hids) (h.cfg ▸ rfl) rfl d) n script

/-- Its write answered with success. -/
theorem closedRun_write {u : State} {e : EngineState} {r : RemoteReg} {v : Word}
    (h : Issues u (pendingIn k i s e out []) (writeReq s r v)) (hids : idsDistinct s.cfg) (d : RefDevice) (n : Nat)
    (script : List Reply) :
    closedRun (n + 1) (promptOk :: script) u d =
      closedRun n script (pendingIn k i s e out [.busDone true 0#16]) (memWrite r v d) :=
  closedRun_answered h (answer_write (h.cfg ▸ hids) (h.cfg ▸ rfl) rfl d) n script

/-- Its last write completed, and its `Notify`. -/
theorem closedRun_end {e : EngineState} {y : Word} (hlast : IsLastWrite e) (hirq : s.irqPending = false) (d : RefDevice)
    (script : List Reply) :
    closedRun 2 script (pendingIn k i s e out [.busDone true y]) d =
      some (deliver (stage .ok 0#16 (pendingIn k i s e out [])), d) :=
  closedRun_lastWrite (s := pendingIn k i s e out [.busDone true y]) hlast hirq rfl script d

end

/-! ## TOGGLE -/

/-- TOGGLE in the closed machine inverts the pin's bit of `OUT` and ends in `Idle`, ready for the next command (R161). -/
theorem closedRun_toggle {s : State} {dev : RefDevice} {pin : Word} {target : Option Tag} (hids : idsDistinct s.cfg)
    (hpin : pin.toNat < 16) (hidle : s.state = .idle) (hirq : s.irqPending = false)
    (hin : s.input = [.cmd (encode (.toggle pin target))]) :
    ∃ t : State, closedRun 4 [] s dev = some (t, { dev with output := dev.output ^^^ 1#16 <<< pin.toNat }) ∧
      t.state = .idle ∧ t.irqPending = false ∧ t.cfg = s.cfg := by
  have hread := issues_start (i := .toggle pin target) rfl ((pinInRange_iff pin).mpr hpin) hidle hirq hin
  have hwrite (out : List Output) := issues_next (k := .toggle) (i := .toggle pin target) (out := out) (rdata := dev.output)
    hirq rfl rfl (complete_readOutputForToggle rfl)
  have hrun := (closedRun_read hread hids dev 3 [promptOk]).trans
    ((closedRun_write (hwrite _) hids dev 2 []).trans (closedRun_end (.inr (.inr (.inl rfl))) hirq _ []))
  exact ⟨_, closedRun_nil_of_prompt 2 hrun, rfl, hirq, rfl⟩

/-- Settles O60: the second run undoes what the first did to `OUT`. -/
theorem twoTogglesRestoreTheOutput : Obligations.TwoTogglesRestoreTheOutput := by
  intro s dev pin target hids hpin hidle hirq hin
  obtain ⟨t, hrun, htidle, htirq, htcfg⟩ := closedRun_toggle (dev := dev) hids hpin hidle hirq hin
  obtain ⟨u, hrun', huidle, _⟩ :=
    closedRun_toggle (s := { t with input := [.cmd (encode (.toggle pin target))] })
      (dev := { dev with output := dev.output ^^^ 1#16 <<< pin.toNat }) (htcfg ▸ hids) hpin htidle htirq rfl
  refine ⟨t, u, hrun, htidle, ?_, huidle⟩
  rw [hrun', BitVec.xor_assoc, BitVec.xor_self, BitVec.xor_zero]

/-! ## BULKWRITE -/

/-- BULKWRITE's loaded sequence, waiting in a state. -/
abbrev bulkWriteIn (s : State) (m d v : Word) (target : Option Tag) (e : EngineState) (out : List Output)
    (evs : List Event) : State := pendingIn .bulkWrite (.bulkWrite m d v target) s e out evs

section
variable {s : State} {m d v : Word} {target : Option Tag}

/-- Its four requests, each issued by the completion of the one before (R170 to R173). -/
theorem issues_bulkWrite (hidle : s.state = .idle) (hirq : s.irqPending = false)
    (hin : s.input = [.cmd (encode (.bulkWrite m d v target))]) (cfg x out : Word) :
    ∃ o0 o1 o2 o3 : List Output,
      Issues s (bulkWriteIn s m d v target .readDirectionForBulkSet o0 []) (readReq s .config) ∧
      Issues (bulkWriteIn s m d v target .readDirectionForBulkSet o0 [.busDone true cfg])
        (bulkWriteIn s m d v target .writeDirectionForBulkSet o1 []) (writeReq s .config (merge cfg m (~~~d))) ∧
      Issues (bulkWriteIn s m d v target .writeDirectionForBulkSet o1 [.busDone true x])
        (bulkWriteIn s m d v target .readOutputForBulkSet o2 []) (readReq s .output) ∧
      Issues (bulkWriteIn s m d v target .readOutputForBulkSet o2 [.busDone true out])
        (bulkWriteIn s m d v target .writeOutputForBulkSet o3 []) (writeReq s .output (merge out m v)) :=
  ⟨_, _, _, _, issues_start (i := .bulkWrite m d v target) rfl rfl hidle hirq hin,
    issues_next hirq rfl rfl (complete_readDirectionForBulkSet rfl),
    issues_next hirq rfl rfl (complete_writeDirectionForBulkSet rfl),
    issues_next hirq rfl rfl (complete_readOutputForBulkSet rfl)⟩

/-- Settles O59: the four requests answered in turn and the end of the sequence; or the first `k` of them, the failure of the
next, and the end of the aborted sequence. -/
theorem bulkWriteInTheReferenceEnvironment : Obligations.BulkWriteInTheReferenceEnvironment := by
  intro s dev m d v target hids hidle hirq hin
  obtain ⟨o0, o1, o2, o3, h0, h1, h2, h3⟩ := issues_bulkWrite hidle hirq hin dev.config 0#16 dev.output
  have run0 := closedRun_read h0 hids dev
  have run1 := closedRun_write h1 hids dev
  have run2 := closedRun_read h2 hids { dev with config := merge dev.config m (~~~d) }
  have run3 := closedRun_write h3 hids { dev with config := merge dev.config m (~~~d) }
  refine ⟨?success, fun k x hk => ?failure⟩
  case success =>
    have hrun := (run0 5 _).trans ((run1 4 _).trans ((run2 3 _).trans ((run3 2 _).trans
      (closedRun_end (.inr (.inr (.inr (.inl rfl)))) hirq _ []))))
    exact ⟨_, closedRun_nil_of_prompt 4 hrun, rfl, rfl⟩
  case failure =>
    interval_cases k
    · exact closedRun_failed (r := .config) h0 hids rfl x dev []
    · obtain ⟨u, hrun, hu⟩ := closedRun_failed (r := .config) h1 hids rfl x dev []
      exact ⟨u, (run0 3 _).trans hrun, hu⟩
    · obtain ⟨u, hrun, hu⟩ := closedRun_failed (r := .output) h2 hids rfl x { dev with config := merge dev.config m (~~~d) } []
      exact ⟨u, (run0 4 _).trans ((run1 3 _).trans hrun), hu⟩
    · obtain ⟨u, hrun, hu⟩ := closedRun_failed (r := .output) h3 hids rfl x { dev with config := merge dev.config m (~~~d) } []
      exact ⟨u, (run0 5 _).trans ((run1 4 _).trans ((run2 3 _).trans hrun)), hu⟩

end

end Sys2Proof.Machine
end
